-- ==== Sys2Proof/Word.lean ====
section
/-! DEFINITION. The words of the JL420: bytes, lane-clock stamps, the microsecond clock, dot rows and text. -/

namespace Sys2Proof

/-- An 8-bit code of the Lane Link, the reader link or a text (00_scope section 5.1, Text). -/
abbrev Byte := BitVec 8

/-- A stamp of the lane clock, the 32-bit millisecond count (00_scope section 5.1, Time). -/
abbrev Stamp := BitVec 32

/-- A value of the microsecond clock, the 64-bit count (00_scope section 5.1, Time). -/
abbrev Micros := BitVec 64

/-- One rendered dot row: 576 dots, bit `k` is dot `k` counted from the left, 1 is black (R143, R154). -/
abbrev DotRow := BitVec 576

/-- Text is a sequence of 8-bit codes (00_scope section 5.1, Text). -/
abbrev Text := List Byte

end Sys2Proof
end

