-- ==== Sys2Proof/Machine/Terms.lean ====
section
/-! DEFINITION. The vocabulary of the commands' operands: channels, modes, blocks, parameter names, item entries, calibration
records and the nonvolatile areas. Every name is the manual's. -/

namespace Sys2Proof

/-- The two scale channels: P (produce) and B (bagging) (chapter 1). -/
inductive Chan where
  | P | B
  deriving DecidableEq, Repr

/-- What every request frame carries besides its own fields: the tag, returned unchanged in the reply (R200), and whether the
payload carries the fields of the owning rule in the form that rule gives (R200, "A request whose payload does not carry ..."). -/
structure Header where
  tag : Byte
  wellFormed : Bool
  deriving DecidableEq, Repr

/-- The lane modes (R121). -/
inductive LaneMode where
  | attended | selfService
  deriving DecidableEq, Repr

/-- Price basis of an item (R61). -/
inductive Basis where
  | perKg | per100g
  deriving DecidableEq, Repr

/-- The blocks READ_CONDITIONS can name, in the order of the summary byte's bits (R206). -/
inductive Block where
  | link | scaleP | scaleB | store | card | print | drawer | rail
  deriving DecidableEq, Repr

/-- Cut kinds (R128, R136). -/
inductive CutKind where
  | full | partialCut
  deriving DecidableEq, Repr

/-- Tender kinds (R125). -/
inductive TenderKind where
  | cash | card | voucher
  deriving DecidableEq, Repr

/-- STAGE_BEGIN modes (R63). -/
inductive StageMode where
  | clear | copy
  deriving DecidableEq, Repr

/-- Weight report modes (R22). -/
inductive ReportMode where
  | off | onChange | periodic (n : Nat)
  deriving DecidableEq, Repr

/-- The sense of a line condition (R196). -/
inductive Sense where
  | allMatch | noneMatch | anyMatch | anyMismatch
  deriving DecidableEq, Repr

/-- The two pulse generators: PG-H (head strobe) and PG-D (drawer solenoid) (R178). -/
inductive Gen where
  | H | D
  deriving DecidableEq, Repr

/-- How a downstream frame came to be discarded (R199, R200). The first two are found at the ending flag, the other three
send the receiver back to HUNT. -/
inductive FrameFault where
  | badCrc | badLength | badEscape | stopBitLow | overlong
  deriving DecidableEq, Repr

/-- How a reader record came to end as a framing error at a character (R102): a character whose stop bit is low, a length byte
above 120, or a check byte that leaves the sum nonzero. -/
inductive RecordFault where
  | stopBitLow
  | longLength (value : Byte)
  | badCheck (value : Byte)
  deriving DecidableEq, Repr

/-- STAB_BAND values (R18, R31), in the order of their range, which is their coding (R207). -/
inductive StabBand where
  | half | one | two
  deriving DecidableEq, Repr

/-- DRAWER_POLARITY values (R181). -/
inductive Polarity where
  | activeHigh | activeLow
  deriving DecidableEq, Repr

/-- DRAWER_SENSOR_POLARITY values (R184). -/
inductive SensorPolarity where
  | openHigh | openLow
  deriving DecidableEq, Repr

/-- The names SET_PARAMETER and GET_PARAMETER know (R207), and `unknown` for a text that is none of them. -/
inductive ParamName where
  -- metrology parameters (R31)
  | pMax | pMax1 | pE1 | pE2 | bMax | bE | filterLenP | filterLenB | stabWindow | stabBand | aztEnable | priceStep
  -- channel enables (R6)
  | channelEnableP | channelEnableB
  -- tickets and slips (R52)
  | refLifetime
  -- Bagging Verifier (R78)
  | bagSettle | bagThreshold | bagTolAbs | bagTolPct | placeTimeout
  -- Card Port (R100)
  | cardAttempts | cardArmTimeout
  -- Print Mechanism (R151)
  | stepperUnits | cutterUnits | dotCurrent | strobeDots | headSettle
  | heatTime1 | heatTime2 | heatTime3 | heatTime4 | heatTime5 | stepPeriod
  -- Drive Rail Arbiter and PG-D (R171)
  | railCapacity | railLowLimit | drawerUnits | drawerPolarity
  -- Drawer Controller (R183)
  | drawerRetries | drawerWait | drawerPulse | drawerConfirm | drawerOpenLimit | drawerSensorPolarity | closeBeforeSale
  -- lane lines (R195, R197)
  | holdLightLine | printerLightLine | attendantCondition
  -- read-only names (R29, R177)
  | sealState | railState
  | unknown (text : Text)
  deriving DecidableEq, Repr

/-- An item entry (R61). The operand of STAGE_ENTRIES carries such entries unchecked; a bank holds checked ones. -/
structure ItemEntry where
  code : Nat
  price : Nat
  basis : Basis
  autoLock : Bool
  attendantOnly : Bool
  presetTare : Option Int
  bagWeight : Option Int
  bagTolerance : Option Int
  description : Text
  deriving DecidableEq, Repr

/-- A calibration record (R28). -/
structure CalRecord where
  zCal : Option Int := none
  span : Option Nat := none
  deriving DecidableEq, Repr

/-- The metrology parameter set with its defaults (R31). Weights are in mg. -/
structure MetParams where
  pMax : Int := 15000000
  pMax1 : Int := 6000000
  pE1 : Int := 2000
  pE2 : Int := 5000
  bMax : Int := 30000000
  bE : Int := 5000
  filterLenP : Nat := 16
  filterLenB : Nat := 32
  stabWindow : Nat := 16
  stabBand : StabBand := .one
  aztEnable : Bool := true
  priceStep : Nat := 1
  deriving DecidableEq, Repr

/-- The contents of the metrology area: both calibration records and the parameter set (R28). -/
structure MetrologyArea where
  calP : CalRecord := {}
  calB : CalRecord := {}
  params : MetParams := {}
  deriving DecidableEq, Repr

/-- The audit area: the audit counter with its own CRC-16 (R28). -/
structure AuditArea where
  count : Nat
  crc : BitVec 16
  deriving DecidableEq, Repr

/-- The metrology area: its contents under one CRC-16 (R28). -/
structure StoredMetrology where
  contents : MetrologyArea
  crc : BitVec 16
  deriving DecidableEq, Repr

/-- The two writable nonvolatile areas (R28). -/
structure NvAreas where
  audit : AuditArea
  metrology : StoredMetrology
  deriving DecidableEq, Repr

/-- Where a store write stands: the audit area is written first, then the metrology area, then both are read back (R36). -/
inductive WriteStage where
  | auditArea | metrologyArea | readBack
  deriving DecidableEq, Repr

end Sys2Proof
end

