-- ==== Sys2Proof/Syntax.lean ====
section
/-! DEFINITION. The commands of the JL420: one constructor per row of spec/opcode_table.json. A request carries its `Header`;
an operand that the manual lets a message carry outside its named values is an `Option`, `none` standing for such a value. -/

namespace Sys2Proof

inductive Instr where
  /-- R208, R37. `stage`: where a store write in flight stood when power was lost (R36); of no account without one. -/
  | powerOnReset (stage : WriteStage)
  /-- R209: a break of 2 ms on LL_RXD. -/
  | linkReset
  /-- R199, R200. -/
  | badFrame (cause : FrameFault)
  /-- R200: a good frame with an unknown code on channel 0, 1, 2, 3 or 5, or with a channel above 5. -/
  | unknownCodeRequest (channel tag code : Byte)
  /-- R204: the transmitter is free. -/
  | upstreamFrameBuild
  /-- R207. -/
  | identify (h : Header)
  /-- R207. -/
  | linkStatus (h : Header)
  /-- R206. `none`: an operand that names no block. -/
  | readConditions (h : Header) (block : Option Block)
  /-- R207. -/
  | setParameter (h : Header) (name : ParamName) (value : Int)
  /-- R207. -/
  | getParameter (h : Header) (name : ParamName)
  /-- R63. `none`: an unknown mode. -/
  | stageBegin (h : Header) (mode : Option StageMode)
  /-- R64. -/
  | stageEntries (h : Header) (entries : List ItemEntry)
  /-- R65. -/
  | stageDelete (h : Header) (codes : List Nat)
  /-- R66. -/
  | stageSeal (h : Header) (count : Nat) (crc : BitVec 32)
  /-- R67. -/
  | stageCommit (h : Header)
  /-- R70. -/
  | stageAbandon (h : Header)
  /-- R72, R73. -/
  | tableQuery (h : Header) (code : Nat)
  /-- R33. `none`: a channel other than P or B. -/
  | calZero (h : Header) (channel : Option Chan)
  /-- R34. -/
  | calSpan (h : Header) (channel : Option Chan) (weight : Int)
  /-- R36: the store write ends; `readBack` is what reading both areas back gives. -/
  | storeWriteComplete (readBack : NvAreas)
  /-- R210. -/
  | laneReset (h : Header)
  /-- R121. -/
  | laneMode (h : Header) (mode : Option LaneMode)
  /-- R193: LINES_CONFIG DIRECTIONS; bit i is 1 for line Li OUT. -/
  | linesConfigDirections (h : Header) (directions : BitVec 8)
  /-- R196: LINES_CONFIG CONDITION; bit i of `mask` and `pattern` belongs to line Li. -/
  | linesConfigCondition (h : Header) (condition : Option (Fin 4)) (mask pattern : BitVec 8) (sense : Option Sense)
  /-- R194: bit i of `mode` and `data` belongs to line Li. -/
  | linesWrite (h : Header) (mode data : BitVec 8)
  /-- R198. -/
  | linesRead (h : Header)
  /-- R12. -/
  | zero (h : Header) (channel : Option Chan)
  /-- R14. -/
  | tare (h : Header) (channel : Option Chan)
  /-- R15. -/
  | tarePreset (h : Header) (channel : Option Chan) (value : Int)
  /-- R15. -/
  | tareClear (h : Header) (channel : Option Chan)
  /-- R40. -/
  | weighItem (h : Header) (code : Nat)
  /-- R41. -/
  | weighItemInline (h : Header) (price : Int) (basis : Option Basis) (description : Text)
  /-- R42. -/
  | weighCancel (h : Header)
  /-- R43. -/
  | lock (h : Header)
  /-- R53. -/
  | ticketVoid (h : Header) (number : Nat)
  /-- R58. -/
  | ticketQuery (h : Header) (number : Nat)
  /-- R22. `none`: an unknown mode. -/
  | reportMode (h : Header) (channel : Option Chan) (mode : Option ReportMode)
  /-- R2: a signed 24-bit converter count. -/
  | sampleArrival (channel : Chan) (count : Int)
  /-- R4. -/
  | silenceExpiry (channel : Chan)
  /-- R24. -/
  | periodicReport (channel : Chan)
  /-- R29: a debounced level of SEAL_IN, high (open) or low; the first one is the first settling. -/
  | sealSwitchChange (high : Bool)
  /-- R52. -/
  | ticketExpired (number : Nat)
  /-- R81: an item code, or an inline weight with an optional tolerance. -/
  | expect (h : Header) (item : Option Nat) (weight tolerance : Option Int)
  /-- R82. -/
  | expectNone (h : Header) (code : Nat)
  /-- R84. -/
  | expectCancel (h : Header) (id : Nat)
  /-- R92. -/
  | override (h : Header)
  /-- R93. -/
  | bagStatus (h : Header)
  /-- R83. -/
  | placeTimeout (id : Nat)
  /-- R95. -/
  | lightPhaseToggle
  /-- R104. -/
  | cardArm (h : Header)
  /-- R109. -/
  | cardDisarm (h : Header)
  /-- R116. -/
  | slipDiscard (h : Header) (id : Nat)
  /-- R102: a 02h arrives in HUNT. -/
  | recordStart
  /-- R106: the check byte that completes a well-framed SWIPE record. -/
  | swipe
  /-- R106: the check byte that completes a well-framed CHIP record. -/
  | chip
  /-- R110: the check byte that completes a well-framed REMOVED record. -/
  | removed
  /-- R110: the check byte that completes a well-framed FAULT record. -/
  | fault
  /-- R102. -/
  | framingError (cause : RecordFault)
  /-- R102. -/
  | recordTimeout
  /-- R105. -/
  | armTimeout
  /-- R108. -/
  | cardForwarding
  /-- R117. -/
  | slipExpired (id : Nat)
  /-- R124. -/
  | openReceipt (h : Header) (number : Nat)
  /-- R125. `none` for the kind: none of CASH, CARD, VOUCHER. -/
  | tender (h : Header) (kind : Option TenderKind) (amount : Int) (slip : Option Nat)
  /-- R128. `none` for the cut: neither FULL nor PARTIAL. -/
  | closeReceipt (h : Header) (subtotal : Int) (cut : Option CutKind)
  /-- R130. -/
  | abandonReceipt (h : Header)
  /-- R164. -/
  | printResume (h : Header)
  /-- R168. -/
  | printStatus (h : Header)
  /-- R136, R137. `otherBits`: an attribute other than DOUBLE_HEIGHT and CENTERED is carried. -/
  | textLine (text : Text) (doubleHeight centered otherBits : Bool)
  /-- R139. `none`: no ticket number is carried. -/
  | weighedLine (ticket : Option Nat)
  /-- R139. -/
  | voidLine (ticket : Option Nat)
  /-- R139. `none`: no slip id is carried. -/
  | cardLine (slip : Option Nat)
  /-- R136, R137. -/
  | feed (rows : Nat)
  /-- R136, R137. `none`: neither FULL nor PARTIAL. -/
  | cut (kind : Option CutKind)
  /-- R142. -/
  | composeItem
  /-- R174. -/
  | claimGrant
  /-- R178. -/
  | pulseBegin (gen : Gen)
  /-- R178. -/
  | pulseEnd (gen : Gen)
  /-- R157. -/
  | paperStep
  /-- R153. -/
  | releaseMeasureExpiry
  /-- R158: whole degrees Celsius. -/
  | headTemperatureSample (celsius : Int)
  /-- R161: the debounced state of PS_OUT; the first one is the first settling (R169). -/
  | paperOutSensor (active : Bool)
  /-- R161: the debounced state of PS_COVER. -/
  | coverOpenSensor (active : Bool)
  /-- R162: the debounced state of PS_NEAR. -/
  | nearEndSensor (active : Bool)
  /-- R163: the debounced state of CT_HOME; from away to home it is the blade's home arrival. -/
  | cutterHome (home : Bool)
  /-- R163. -/
  | cutterJam
  /-- R172: tenths of a volt. -/
  | railVoltageSample (tenths : Nat)
  /-- R185. -/
  | drawerRelease (h : Header)
  /-- R191. -/
  | drawerStatus (h : Header)
  /-- R184: a debounced level of DR_SENSE; the first one is the first settling. -/
  | drawerSensorChange (high : Bool)
  /-- R187. -/
  | confirmTimeout
  /-- R189. -/
  | openTooLong
  /-- R193: a debounced level of line pin LNi. -/
  | lineInputChange (line : Fin 8) (level : Bool)
  /-- R199: a character on LL_RXD, with its stop bit high or low. -/
  | downstreamByte (value : Byte) (stopHigh : Bool)
  /-- R102: a character on CR_RXD. -/
  | readerCharacter (value : Byte)
  /-- R103: the check byte that completes a well-framed record of another kind. -/
  | unknownKindRecord
  /-- R200, R136: a good frame on channel 4 with a code that is no listed request and no print record kind. -/
  | unknownPrintCode (code : Byte)
  deriving DecidableEq, Repr

end Sys2Proof
end

