-- ==== Sys2Proof/Machine/Records.lean ====
section
/-! DEFINITION. The records the blocks keep and the names of their states: readings and reports, tickets, expectations, slips,
tenders, print items, Line Queue entries, claims and pulse generators. Weights are `Int` mg, money is `Nat` minor units. -/

namespace Sys2Proof.Machine

/-! ### Weighing channels (chapter 1) -/

/-- Channel states (section 1.3). -/
inductive ChanState where
  | off | uncalibrated | filling | zeroing | ready | fault
  deriving DecidableEq, Repr

/-- Tare source (R1). -/
inductive TareSource where
  | none | operator | item
  deriving DecidableEq, Repr

/-- The current reading (R10). -/
structure Reading where
  state : ChanState
  g : Int
  gross : Int
  tare : Int
  source : TareSource
  net : Int
  interval : Nat
  nd : Option Int
  grossRounded : Option Int
  stable : Bool
  stableSince : Option Stamp
  overload : Bool
  underload : Bool
  stamp : Stamp
  deriving DecidableEq, Repr

/-- A weight report (R21). -/
structure WeightReport where
  channel : Chan
  state : ChanState
  stable : Bool
  nd : Option Int
  grossRounded : Option Int
  tare : Int
  source : TareSource
  interval : Option Nat
  overload : Option Bool
  underload : Option Bool
  stamp : Stamp
  deriving DecidableEq, Repr

/-! ### Pricing (chapter 3) -/

/-- The pending weighing (section 3.2). -/
structure Weighing where
  itemCode : Nat
  price : Nat
  basis : Basis
  description : Text
  presetTare : Option Int
  autoLock : Bool
  bagWeight : Option Int
  bagTolerance : Option Int
  attendantOnly : Bool
  generation : Nat
  step : Nat
  deriving DecidableEq, Repr

/-- Ticket states (section 3.6). -/
inductive TicketState where
  | locked | attached | printed | voided
  deriving DecidableEq, Repr

/-- A ticket (R48). -/
structure Ticket where
  number : Nat
  itemCode : Nat
  description : Text
  unitPrice : Nat
  basis : Basis
  step : Nat
  nd : Int
  interval : Nat
  division : Int
  tare : Int
  source : TareSource
  price : Nat
  generation : Nat
  lockTime : Stamp
  state : TicketState
  receipt : Option Nat
  voidRequested : Bool
  expectation : Option Nat
  deriving DecidableEq, Repr

/-- Why a pending weighing was cancelled with an event (R42). -/
inductive CancelReason where
  | metrology | modeChange
  deriving DecidableEq, Repr

/-! ### Item Table (chapter 4) -/

/-- Standby states (section 4.3). -/
inductive StandbyState where
  | empty | staging | sealed | commitPending
  deriving DecidableEq, Repr

/-- The entry fields STAGE_ENTRIES checks, in the order of R61. -/
inductive EntryField where
  | code | price | presetTare | bagWeight | bagTolerance | description
  deriving DecidableEq, Repr

/-! ### Bagging Verifier (chapter 5) -/

/-- Verifier states (R77). -/
inductive VerifierState where
  | idle | settling | watching | hold
  deriving DecidableEq, Repr

/-- The hold reason set (section 5.1): each reason is present at most once. -/
structure Reasons where
  unexpected : Bool := false
  removed : Bool := false
  overdue : Bool := false
  scaleFault : Bool := false
  deriving DecidableEq, Repr

/-- Source of an expectation (R79). -/
inductive ExpectationSource where
  | ticket (number : Nat) | item (code : Nat) | inlineWeight
  deriving DecidableEq, Repr

/-- An expectation (R79). `overdue` false is WAITING. -/
structure Expectation where
  id : Nat
  delta : Int
  low : Int
  high : Int
  source : ExpectationSource
  posted : Stamp
  overdue : Bool
  deriving DecidableEq, Repr

/-- Causes of HOLD_CLEARED (R77). -/
inductive ClearCause where
  | returned | expectationGone | scaleOk | override | modeChange | laneReset
  deriving DecidableEq, Repr

/-! ### Card Port (chapter 6) -/

/-- Port states (R100). -/
inductive PortState where
  | disarmed | armed | receiving | forwarding
  deriving DecidableEq, Repr

/-- Phases of the reader receiver (R102). -/
inductive ReaderPhase where
  | hunt | kind | length | payload | check
  deriving DecidableEq, Repr

/-- Destination of a reader record (R102). -/
inductive Destination where
  | store | count | skip
  deriving DecidableEq, Repr

/-- Entry method of a read (R112). -/
inductive EntryMethod where
  | swipe | chip
  deriving DecidableEq, Repr

/-- Reasons of a failed read (R107). -/
inductive ReadFailure where
  | framing | length | checkDigit | expiry
  deriving DecidableEq, Repr

/-- The assembly record of the reader receiver (R102). `faultCode` is the first payload byte of a FAULT record, kept whatever
the destination (R102, COUNT); it is 0 until that byte is taken. -/
structure ReaderRx where
  phase : ReaderPhase := .hunt
  kind : Byte := 0
  length : Nat := 0
  taken : Nat := 0
  sum : Byte := 0
  lastByte : Stamp := 0
  destination : Destination := .count
  faultCode : Byte := 0
  deriving DecidableEq, Repr

/-- The record buffer: the reader record being received or awaiting forwarding, with its read time (section 6.1). -/
structure CardBuffer where
  kind : Byte
  payload : List Byte
  readTime : Option Stamp
  deriving DecidableEq, Repr

/-- Slip states (R112). -/
inductive SlipState where
  | held | attached | printed
  deriving DecidableEq, Repr

/-- A slip (R112). -/
structure Slip where
  id : Nat
  method : EntryMethod
  masked : Text
  lastFour : Text
  label : Option Text
  readTime : Stamp
  state : SlipState
  receipt : Option Nat
  lineRequested : Bool
  deriving DecidableEq, Repr

/-- The full read carried by CARD_DATA (R108). -/
structure CardData where
  method : EntryMethod
  account : Text
  expiry : Text
  service : Text
  discretionary : Text
  label : Text
  sequence : Option Byte
  readTime : Stamp
  slip : Nat
  deriving DecidableEq, Repr

/-! ### Receipt context (chapter 7) -/

/-- Receipt states (section 7.3). -/
inductive ReceiptState where
  | closed | opened | tendering | closing
  deriving DecidableEq, Repr

/-- A tender line (section 7.1). -/
structure TenderLine where
  kind : TenderKind
  amount : Nat
  slip : Option Nat
  deriving DecidableEq, Repr

/-- Marker kinds (section 7.1). -/
inductive MarkerKind where
  | close | abandon
  deriving DecidableEq, Repr

/-- A close or abandon marker (sections 7.1 and 8.1). -/
structure Marker where
  kind : MarkerKind
  receipt : Nat
  cut : CutKind
  deriving DecidableEq, Repr

/-- Outcome of a receipt (R132). -/
inductive Ending where
  | closed | abandoned
  deriving DecidableEq, Repr

/-- RECEIPT_DONE (R132). -/
structure ReceiptReport where
  number : Option Nat
  ending : Ending
  openedTime : Option Stamp
  endTime : Stamp
  subtotal : Nat
  tickets : Nat
  slips : Nat
  tenders : Nat
  tenderSum : Nat
  mode : LaneMode
  deriving DecidableEq, Repr

/-! ### Print Composer (chapter 8) -/

/-- Content of a print record in the Print Queue (section 8.1). -/
inductive PrintContent where
  | text (line : Text) (doubleHeight centered : Bool)
  | weighed (ticket : Nat)
  | void (ticket : Nat)
  | card (slip : Nat)
  | feed (rows : Nat)
  | cut (kind : CutKind)
  deriving DecidableEq, Repr

/-- An item of the Print Queue: a tagged record, or the marker of the reserved cell (section 8.1, R138). -/
inductive QueueItem where
  | record (content : PrintContent) (tag : Option Nat)
  | marker (m : Marker)
  deriving DecidableEq, Repr

/-- Completion notices (section 8.1). -/
inductive Notice where
  | ticketPrinted (number : Nat)
  | ticketVoided (number : Nat)
  | slipPrinted (id : Nat)
  | markerCut (kind : MarkerKind) (receipt : Nat)
  deriving DecidableEq, Repr

/-- What a Line Queue entry puts on paper (section 8.1). -/
inductive LineRun where
  | text (rows : List DotRow)
  | feed (rows : Nat)
  | cutMark (kind : CutKind)
  deriving DecidableEq, Repr

/-- Kind of a Line Queue entry, as PRINT_EVENT and PRINT_STATUS name it (R161, R168). -/
inductive EntryKind where
  | textRun | feedRun | cutMark
  deriving DecidableEq, Repr

/-- A Line Queue entry (section 8.1). -/
structure LineEntry where
  run : LineRun
  tag : Option Nat
  notice : Option Notice
  deriving DecidableEq, Repr

/-- Reasons of a reference error (R136, R140). -/
inductive ReferenceFault where
  | malformed | noReceipt | notKnown | duplicate
  deriving DecidableEq, Repr

/-! ### Print Mechanism (chapter 9) -/

/-- Print states (section 9.2). -/
inductive PrintState where
  | idle | running | waitHot | stopped | cutting
  deriving DecidableEq, Repr

/-- The sensors that stop printing (R161). -/
inductive StopSensor where
  | paperOut | coverOpen
  deriving DecidableEq, Repr

/-- A stop that waits for the end of the row or cut in progress (R161). A `silent` one came with the first settling of its sensor, which
has latched the condition already and emits no event (R169). -/
structure PendingStop where
  sensor : StopSensor
  silent : Bool
  deriving DecidableEq, Repr

/-- Stop reasons (section 9.1). -/
inductive StopReason where
  | sensor (s : StopSensor)
  | cutterJam
  deriving DecidableEq, Repr

/-- Motor hold (R153). -/
inductive MotorHold where
  | released | claiming | held | lingering
  deriving DecidableEq, Repr

/-- Temperature bands (R158). -/
inductive Band where
  | b1 | b2 | b3 | b4 | b5 | over65
  deriving DecidableEq, Repr

/-- Phase of the row in progress: its group's claim is made, its group is being fired, the row reaches its step in the event
now being taken, or it waits for its step (R155, R157). -/
inductive RowPhase where
  | claiming | firing | reached | awaiting
  deriving DecidableEq, Repr

/-- The row in progress (section 9.1): its groups, each the list of its black dots, the index of the group in hand, its phase,
and the DOT_CURRENT its groups are claimed at (R151, R154). -/
structure RowWork where
  groups : List (List Nat)
  index : Nat
  phase : RowPhase
  dotCurrent : Nat
  deriving DecidableEq, Repr

/-! ### Drive rail and pulse generators (chapter 10) -/

/-- The claimants, in priority order (R174). -/
inductive Claimant where
  | drawer | cutter | stepper | head
  deriving DecidableEq, Repr

/-- Claim states (section 10.1). -/
inductive ClaimPhase where
  | none | waiting | granted
  deriving DecidableEq, Repr

/-- A claim record (section 10.1). -/
structure Claim where
  phase : ClaimPhase := .none
  units : Nat := 0
  made : Stamp := 0
  deriving DecidableEq, Repr

/-- Pulse generator states (R178). -/
inductive GenPhase where
  | idle | waiting | pulsing
  deriving DecidableEq, Repr

/-- A pulse generator on a clock of `w` bits: current settings, next-trigger settings and the due time of the running wait or
pulse (R178, R179). -/
structure PulseGen (w : Nat) where
  phase : GenPhase := .idle
  wait : Nat
  pulse : Nat
  next : Option (Nat × Nat) := none
  due : Option (BitVec w) := none
  deriving DecidableEq, Repr

/-! ### Drawer and lane lines (chapter 11) -/

/-- Drawer states (R183). -/
inductive DrawerState where
  | closed | claiming | pulseWait | pulsing | confirming | opened
  deriving DecidableEq, Repr

/-- Authorization of a release (section 11.1). -/
inductive Authorization where
  | permit | noSale
  deriving DecidableEq, Repr

/-- Opening causes (section 11.1). -/
inductive OpenCause where
  | release | forced | start
  deriving DecidableEq, Repr

/-- The definition of a line condition (R196). -/
structure LineCondition where
  mask : BitVec 8 := 0
  pattern : BitVec 8 := 0
  sense : Sense := .allMatch
  deriving DecidableEq, Repr

/-- The four flags of a line condition (R196). -/
structure LineFlags where
  allMatch : Bool
  noneMatch : Bool
  anyMatch : Bool
  anyMismatch : Bool
  deriving DecidableEq, Repr

/-! ### Latched conditions (R206) -/

/-- Every condition a block can latch: the scale conditions of R20 for each channel, then those of R36, R118, R140, R166, R191,
R172 and R206. -/
inductive Condition where
  | overload (c : Chan) | underload (c : Chan) | signalFault (c : Chan)
  | zeroRange (c : Chan) | zeroLimit (c : Chan) | calInvalid (c : Chan)
  | storeFault
  | readerFault | unsolicited
  | referenceError | paperOut | coverOpen | cutterJam | paperLow | headHot
  | notOpened | forcedOpen | openTooLong
  | railLow
  | crcDiscard | intakeOverrun | alertOverflow
  deriving DecidableEq, Repr

end Sys2Proof.Machine
end

