-- ==== Sys2Proof/Machine/Messages.lean ====
section
/-! DEFINITION. What the part sends upstream: events of the Alert queue, replies, LINK_UP and the upstream frame. The payload
fields are those the owning rules name; their byte encoding is not laid out in the manual (R200). -/

namespace Sys2Proof.Machine

/-- Kinds of BAG_EVENT (R96). -/
inductive BagKind where
  | referenceSet (nd : Int)
  | placedOk (id : Nat) (source : ExpectationSource) (expected change : Int)
  | unexpectedWeight (change : Int)
  | unexpectedItem (change : Int)
  | itemRemoved (change : Int)
  | returned (nd : Int)
  | bagsTaken (change : Int)
  | addedIdle (change : Int)
  | placeTimeout (id : Nat) (source : ExpectationSource) (expected : Int)
  | scaleFault (state : ChanState) (overload : Bool)
  | scaleOk (nd : Int) (unexpectedAdded : Bool)
  | holdEntered
  | holdCleared (cause : ClearCause) (removed : Reasons)
  deriving DecidableEq, Repr

/-- Kinds of CARD_EVENT (section 6.6). -/
inductive CardKind where
  | armTimeout (cutShort : Bool)
  | readError (reason : ReadFailure) (attemptsLeft : Nat) (exhausted : Bool)
  | discarded (state : PortState)
  | unsolicited (method : EntryMethod)
  | removed
  | fault (code : Byte)
  | slipExpired (id : Nat) (masked : Text) (readTime : Stamp)
  deriving DecidableEq, Repr

/-- Kinds of PRINT_EVENT (R136, R140, R161, R163, R164, R159). -/
inductive PrintKind where
  | referenceError (code : Byte) (reference : Option Nat) (reason : ReferenceFault)
  | stopped (sensor : StopSensor) (head : Option EntryKind) (rowsDone : Nat) (occupancy : Nat)
  | cutterJam
  | resumed (former : Option StopReason)
  | headHot (celsius : Int)
  | headCooled (celsius : Int)
  deriving DecidableEq, Repr

/-- Kinds of DRAWER_EVENT (R191). -/
inductive DrawerKind where
  | opened (authorization : Option Authorization) (attempts : Nat)
  | notOpened (authorization : Option Authorization) (attempts : Nat)
  | forcedOpen
  | openTooLong (duration : Nat) (cause : Option OpenCause)
  | closed (cause : Option OpenCause) (duration : Nat) (tooLong : Bool)
  deriving DecidableEq, Repr

/-- Kinds of LANE_EVENT (R201). -/
inductive LaneKind where
  | sealOpened (audit : Nat)
  | sealClosed (audit : Nat)
  | tableSwitched (generation count : Nat) (crc : BitVec 32)
  | railLow (tenths ceff granted : Nat)
  | railOk (tenths ceff granted : Nat)
  | attendantOn (condition : Option (Fin 4))
  | attendantOff (condition : Option (Fin 4))
  | modeChanged (mode : LaneMode)
  deriving DecidableEq, Repr

/-- The events of the Alert class (R201). A BAG_EVENT carries the hold reason set and Wref as they stand after its cause
(R96). -/
inductive Event where
  | scaleLocked (t : Ticket)
  | ticketExpired (number itemCode : Nat) (nd : Int) (price : Nat) (expectation : Option Nat)
  | weighingCancelled (itemCode : Nat) (reason : CancelReason)
  | bag (kind : BagKind) (reasons : Reasons) (wref : Option Int)
  | cardData (d : CardData)
  | card (kind : CardKind)
  | print (kind : PrintKind)
  | drawer (kind : DrawerKind)
  | lane (kind : LaneKind)
  | receiptDone (r : ReceiptReport)
  deriving DecidableEq, Repr

/-- An Alert queue entry: the event with the lane clock of its cause (R57, R96, section 6.6, R166, R191). -/
structure Alert where
  stamp : Stamp
  event : Event
  deriving DecidableEq, Repr

/-- Why LINK_UP is sent (R208). -/
inductive LinkUpReason where
  | powerOn | linkReset
  deriving DecidableEq, Repr

/-- The vendor code (R207). -/
def vendorCode : BitVec 16 := 0x0B3C

/-- The part code JL420, five characters (R207). -/
def partCode : Text := [0x4A, 0x4C, 0x34, 0x32, 0x30]

/-- LINK_UP (R208). -/
structure LinkUp where
  reason : LinkUpReason
  freeRequests : Nat
  freeCells : Nat
  part : Text
  generation : Nat
  mode : LaneMode
  stamp : Stamp
  deriving DecidableEq, Repr

/-- Status codes (R201), in the order of their values 00h to 17h. -/
inductive Status where
  | ok | busy | badRequest | wrongState | sealed | auditFull | storeFault | outOfRange | notStable | notCleared
  | unknownItem | unknownTicket | unknownSlip | unknownExpectation | tableFull | queueFull | priceOverflow
  | baggingHold | baggingPending | attendantRequired | noPermit | drawerOpen | checkMismatch | subtotalMismatch
  deriving DecidableEq, Repr

/-- The RAIL_STATE record (R177). -/
structure RailReport where
  voltage : Nat
  low : Bool
  ceff : Nat
  capacity : Nat
  granted : Nat
  drawer : Claim
  cutter : Claim
  stepper : Claim
  head : Claim
  deriving DecidableEq, Repr

/-- The value GET_PARAMETER returns (R207). -/
inductive ParamValue where
  | value (v : Int)
  | sealState (isOpen : Bool)
  | railState (r : RailReport)
  deriving DecidableEq, Repr

/-- The receipt summary of every receipt reply (R132). -/
structure ReceiptSummary where
  state : ReceiptState
  number : Option Nat
  subtotal : Nat
  tickets : Nat
  slips : Nat
  tenders : Nat
  permit : Bool
  marker : Option Marker
  mode : LaneMode
  deriving DecidableEq, Repr

/-- One ticket of the SUBTOTAL_MISMATCH reply (R128). -/
structure TicketLine where
  number : Nat
  price : Nat
  state : TicketState
  voidRequested : Bool
  deriving DecidableEq, Repr

/-- What a receipt reply carries beside the summary (R124, R125, R128, R130). -/
inductive ReceiptExtra where
  | none
  | opened (permitDiscarded : Bool)
  | tendered (position lines : Nat) (permit : Bool)
  | closing (number : Option Nat) (subtotal : Nat)
  | mismatch (subtotal : Nat) (tickets : List TicketLine)
  | abandoned (number : Option Nat) (tickets slips tenders tenderSum : Nat)
  deriving DecidableEq, Repr

/-- One ticket of the TICKET_QUERY summary (R58). -/
structure TicketBrief where
  number : Nat
  state : TicketState
  receipt : Option Nat
  nd : Int
  price : Nat
  deriving DecidableEq, Repr

/-- BAG_STATUS (R93). -/
structure BagReport where
  verifier : VerifierState
  reasons : Reasons
  wref : Option Int
  holdReference : Option Int
  lightOn : Bool
  nextId : Nat
  channelState : ChanState
  stable : Bool
  nd : Option Int
  queue : List Expectation
  deriving DecidableEq, Repr

/-- The head entry as PRINT_STATUS gives it (R168). -/
structure HeadReport where
  kind : EntryKind
  length : Nat
  done : Nat
  deriving DecidableEq, Repr

/-- PRINT_STATUS (R168). -/
structure PrintReport where
  state : PrintState
  reason : Option StopReason
  pendingStop : Option StopSensor
  celsius : Int
  band : Band
  overheat : Bool
  paperOut : Bool
  nearEnd : Bool
  coverOpen : Bool
  home : Bool
  hold : MotorHold
  stepperUnits : Option Nat
  head : Option HeadReport
  light : Bool
  records : Nat
  reserved : Option Marker
  entries : Nat
  owed : Nat
  deriving DecidableEq, Repr

/-- The release in progress, as DRAWER_STATUS gives it (R191). -/
structure ReleaseReport where
  authorization : Authorization
  retriesLeft : Nat
  attempts : Nat
  deriving DecidableEq, Repr

/-- The opening in progress, as DRAWER_STATUS gives it (R191). -/
structure OpeningReport where
  since : Option Stamp
  duration : Nat
  cause : Option OpenCause
  tooLong : Bool
  deriving DecidableEq, Repr

/-- DRAWER_STATUS (R191). -/
structure DrawerReport where
  state : DrawerState
  sensorOpen : Bool
  release : Option ReleaseReport
  confirmLeft : Option Nat
  permit : Bool
  permitOut : Bool
  opening : Option OpeningReport
  generator : GenPhase
  claim : ClaimPhase
  deriving DecidableEq, Repr

/-- One line as LINES_READ gives it (R198). -/
structure LineReport where
  isOut : Bool
  latch : Bool
  input : Option Bool
  level : Bool
  deriving DecidableEq, Repr

/-- One line condition as LINES_READ gives it (R198). -/
structure ConditionReport where
  definition : LineCondition
  flags : LineFlags
  value : Bool
  deriving DecidableEq, Repr

/-- The payload fields of a reply, as the owning rule names them; `none` where it names none. -/
inductive ReplyBody where
  | none
  /-- R207 IDENTIFY. -/
  | identity (vendor : BitVec 16) (part : Text) (revision : Byte) (serial audit generation : Nat) (validP validB : Bool)
  /-- R207 LINK_STATUS: the two free counts are set at the build of the frame that carries the reply. -/
  | linkStatus (freeRequests freeCells replies alerts : Nat) (slotP slotB : Bool) (run : Nat) (clock : Stamp)
  /-- R206. -/
  | conditions (returned after : List Condition)
  /-- R207. -/
  | parameter (name : ParamName) (value : ParamValue)
  /-- R31: an accepted metrology change, with the audit counter. -/
  | metrologyParameter (name : ParamName) (value : Int) (audit : Nat)
  /-- R31: the unchanged indication. -/
  | unchangedParameter (name : ParamName) (value : Int)
  /-- R63. -/
  | stageBegun (count generation : Nat)
  /-- R64: position and first failing field. -/
  | entryFault (position : Nat) (field : EntryField)
  /-- R64: the present count at TABLE_FULL. -/
  | entryCount (count : Nat)
  /-- R64. -/
  | staged (joined replaced count : Nat)
  /-- R65. -/
  | deleted (removed count : Nat)
  /-- R66. -/
  | computedCheck (count : Nat) (crc : BitVec 32)
  /-- R67 SWITCHED. -/
  | switched (generation count : Nat) (crc : BitVec 32)
  /-- R67 DEFERRED. -/
  | deferred (receipt : Option Nat) (count : Nat) (crc : BitVec 32)
  /-- R70. -/
  | stageAbandoned (was : StandbyState)
  /-- R72. -/
  | tableEntry (e : ItemEntry) (generation : Nat)
  | tableMiss (generation : Nat)
  /-- R73. -/
  | tableSummary (generation active : Nat) (state : StandbyState) (standby : Nat) (check : Option (Nat × BitVec 32))
      (awaiting : Option Nat)
  /-- R33. -/
  | calZeroed (zCal : Int) (valid : Bool) (audit : Nat)
  /-- R34. -/
  | calSpanned (span audit : Nat)
  | calRefused (f d : Int)
  /-- R210, R134. -/
  | laneResetDone (number : Option Nat) (state : ReceiptState) (tickets slips tenders tenderSum : Nat)
  /-- R121. -/
  | laneMode (mode : LaneMode) (unchanged : Bool)
  | laneModeRefused (mode : LaneMode) (state : ReceiptState)
  /-- R193. -/
  | lineDirections (directions latches : BitVec 8)
  /-- R196. -/
  | lineCondition (flags : LineFlags) (value : Bool)
  /-- R194. -/
  | lineLatches (latches skipped : BitVec 8)
  /-- R198. -/
  | lines (lines : List LineReport) (conditions : List ConditionReport) (holdLight printerLight : Option (Fin 8))
      (attendant : Option (Fin 4)) (attendantValue : Bool)
  /-- R15. -/
  | operatorTare (value : Int)
  /-- R40, R41. -/
  | weighing (replaced : Bool) (w : Weighing)
  /-- R42. -/
  | weighCancelled (itemCode : Nat)
  /-- R44, R58. -/
  | ticket (t : Ticket)
  /-- R43: the Nd and interval of the reading, and the computed price at PRICE_OVERFLOW. -/
  | lockRefused (nd : Option Int) (interval : Option Nat) (price : Option Nat)
  /-- R53. -/
  | ticketVoided (expectation : Option Nat)
  /-- R58. -/
  | ticketSummary (tickets : List TicketBrief) (next : Nat) (clearRequired : Bool) (weighing : Option Nat)
  /-- R81. -/
  | expectationPosted (id : Nat) (delta low high : Int)
  /-- R82. -/
  | expectNone (code : Nat) (clock : Stamp)
  /-- R84. -/
  | expectation (e : Expectation)
  /-- R92. -/
  | overridden (overdueRemoved : Nat) (removed : Reasons) (state : VerifierState) (wref : Option Int)
  /-- R93. -/
  | bagStatus (r : BagReport)
  /-- R104. -/
  | cardArmed (attempts : Nat) (due : Stamp)
  /-- R109: the state the port was in. -/
  | cardDisarmed (was : PortState)
  /-- R116. -/
  | slipDiscarded (id : Nat) (masked : Text)
  /-- R132. -/
  | receipt (s : ReceiptSummary) (extra : ReceiptExtra)
  /-- R164. -/
  | resumed (former : Option StopReason) (state : PrintState)
  | resumeRefused (state : PrintState) (reason : Option StopReason) (paperOut coverOpen : Bool)
  /-- R168. -/
  | printStatus (r : PrintReport)
  /-- R185. -/
  | released (authorization : Authorization) (retriesLeft : Nat)
  | releaseRefused (state : DrawerState) (permit : Bool)
  /-- R191. -/
  | drawerStatus (r : DrawerReport)
  deriving DecidableEq, Repr

/-- A reply: the request's code and tag, the status and the payload (R200, R211). -/
structure Reply where
  code : Byte
  tag : Byte
  status : Status
  body : ReplyBody
  deriving DecidableEq, Repr

/-- A message of an upstream frame (R204). -/
inductive Message where
  | linkUp (l : LinkUp)
  | alert (a : Alert)
  | reply (r : Reply)
  | report (w : WeightReport)
  deriving DecidableEq, Repr

/-- An upstream frame: header counts, summary byte and messages (R204, section 12.9.2). -/
structure UpFrame where
  requestCredits : Nat
  printCredits : Nat
  summary : Byte
  messages : List Message
  deriving DecidableEq, Repr

end Sys2Proof.Machine
end

