-- ==== Sys2Proof/Config.lean ====
section
/-! DEFINITION. The values the manual leaves open, each an opaque constant with no body: nothing can be proved of its value,
so a statement holds whatever it is. Log entries 2 to 5. -/

namespace Sys2Proof

/-- The built-in font (R143: "drawn with its glyph from the part's built-in font"): whether the glyph of a code has a black dot
in glyph row `row` (0..23) and glyph column `col` (0..11). The space is not asked of it. FREE VALUE, log entry 2. -/
opaque Config.fontDot (code : Byte) (row col : Nat) : Bool

/-- The payload length of an upstream message, before the bound of 500 (R203, R204); payload encodings are not laid out in the
manual (R200). FREE VALUE, log entry 3. -/
opaque Config.payloadSize (m : Machine.Message) : Nat

/-- Payload byte `i` of an upstream message (R200: not laid out in the manual). FREE VALUE, log entry 3. -/
opaque Config.payloadByte (m : Machine.Message) (i : Nat) : Byte

/-- What the one-byte credit field of an upstream frame shows of `n` credits, for an `n` above 255 (section 12.9.2). FREE VALUE, log
entry 42. -/
opaque Config.creditByte (n : Nat) : Byte

/-- What a payload carries: the fields the owning rule of a message names, or nothing when it does not carry them in the form of that
rule; the encoding is not laid out in the manual (R200). FREE VALUE, log entry 3. -/
opaque Config.payloadFields (α : Type) (channel code : Byte) (payload : List Byte) : Option α

/-- The revision letter IDENTIFY returns (R207), which the manual does not give. FREE VALUE, log entry 4. -/
opaque Config.revision : Byte

/-- The level on the pin of an IN line at a time (R198): it is the lane's, and the manual gives it only as far as the debounced
input. FREE VALUE, log entry 5. -/
opaque Config.pinLevel (clock : Micros) (line : Fin 8) : Bool

end Sys2Proof
end

