-- ==== Sys2Proof/Machine/Codes.lean ====
section
/-! DEFINITION. Byte strings and checks: multi-byte fields, the CRC-16 and the CRC-32, and the bytes, the check and the reading of the
two writable nonvolatile areas (R28, R37, R66, R211). -/

namespace Sys2Proof.Machine

/-! ### Fields (R211) -/

/-- The `n` bytes of a number, most significant first (R211). -/
def bytesOf (n v : Nat) : List Byte :=
  (List.range n).map fun i => BitVec.ofNat 8 (v / 256 ^ (n - 1 - i))

/-- The number in a field, most significant byte first (R211). -/
def fieldOf (bytes : List Byte) : Nat := bytes.foldl (fun n b => 256 * n + b.toNat) 0

/-- A signed 32-bit integer as it is carried: its two's complement (00_scope section 5.1). -/
def word32 (v : Int) : Nat := (BitVec.ofInt 32 v).toNat

/-- The signed 32-bit integer in a field of four bytes. -/
def signedField (bytes : List Byte) : Int := (BitVec.ofNat 32 (fieldOf bytes)).toInt

/-- Bits of a flag byte, the first being bit 0. -/
def flagByte (flags : List Bool) : Byte :=
  BitVec.ofNat 8 (flags.foldr (fun b n => 2 * n + if b then 1 else 0) 0)

/-! ### CRCs -/

/-- One bit of the CRC-16: polynomial 1021h, most significant bit first (R211). -/
def crc16Bit (crc : BitVec 16) : BitVec 16 :=
  if crc.msb then (crc <<< 1) ^^^ 0x1021 else crc <<< 1

def crc16Byte (crc : BitVec 16) (b : Byte) : BitVec 16 :=
  Nat.repeat crc16Bit 8 (crc ^^^ (b.setWidth 16 <<< 8))

/-- The CRC-16 of the store's areas and of both link directions: initial value FFFFh, no reflection, no final exclusive-OR (R28,
R211). -/
def crc16 (bytes : List Byte) : BitVec 16 := bytes.foldl crc16Byte 0xFFFF

/-- One bit of the CRC-32: the reflected polynomial EDB88320h, least significant bit first (R66). -/
def crc32Bit (crc : BitVec 32) : BitVec 32 :=
  if crc.getLsbD 0 then (crc >>> 1) ^^^ 0xEDB88320 else crc >>> 1

def crc32Byte (crc : BitVec 32) (b : Byte) : BitVec 32 :=
  Nat.repeat crc32Bit 8 (crc ^^^ b.setWidth 32)

/-- The CRC-32 of the sealing check: initial value FFFFFFFFh, the final value XORed with FFFFFFFFh (R66). -/
def crc32 (bytes : List Byte) : BitVec 32 := bytes.foldl crc32Byte 0xFFFFFFFF ^^^ 0xFFFFFFFF

/-! ### The nonvolatile areas (R28)

The manual gives each area's contents and its CRC-16, not the order of its bytes: the layout is the model's choice (log entry 37). -/

/-- A calibration record is valid when both values are present (R28). -/
def calValid (r : CalRecord) : Bool := r.zCal.isSome && r.span.isSome

/-- The bytes of the audit area: the counter. -/
def auditBytes (count : Nat) : List Byte := bytesOf 2 count

/-- The bytes of a calibration record: its valid field and the presence of the two values, then the two values. -/
def calBytes (r : CalRecord) : List Byte :=
  [flagByte [calValid r, r.zCal.isSome, r.span.isSome]] ++ bytesOf 4 (word32 (r.zCal.getD 0)) ++ bytesOf 4 (r.span.getD 0)

/-- STAB_BAND as its number (R207). -/
def bandNumber : StabBand → Nat
  | .half => 0
  | .one => 1
  | .two => 2

/-- The bytes of the parameter set: each value as a signed 32-bit integer (R207), in the order of R31. -/
def parameterBytes (m : MetParams) : List Byte :=
  [m.pMax, m.pMax1, m.pE1, m.pE2, m.bMax, m.bE].flatMap (fun v => bytesOf 4 (word32 v)) ++
  [m.filterLenP, m.filterLenB, m.stabWindow, bandNumber m.stabBand, if m.aztEnable then 1 else 0, m.priceStep].flatMap
    (bytesOf 4)

/-- The bytes of the metrology area: the record of channel P, that of channel B, the parameter set (R28). -/
def metrologyBytes (a : MetrologyArea) : List Byte := calBytes a.calP ++ calBytes a.calB ++ parameterBytes a.params

/-- What a read of the audit area gives: nothing when its CRC-16 is bad (R37). -/
def readAudit (a : AuditArea) : Option Nat := if a.crc = crc16 (auditBytes a.count) then some a.count else none

/-- What a read of the metrology area gives: nothing when its CRC-16 is bad (R37). -/
def readMetrology (a : StoredMetrology) : Option MetrologyArea :=
  if a.crc = crc16 (metrologyBytes a.contents) then some a.contents else none

/-- The audit area as a write leaves it (R36). -/
def writtenAudit (count : Nat) : AuditArea := ⟨count, crc16 (auditBytes count)⟩

/-- The metrology area as a write leaves it (R36). -/
def writtenMetrology (a : MetrologyArea) : StoredMetrology := ⟨a, crc16 (metrologyBytes a)⟩

/-- Both areas as a store write leaves them (R36). -/
def writtenAreas (count : Nat) (a : MetrologyArea) : NvAreas := ⟨writtenAudit count, writtenMetrology a⟩

/-- The audit area with a bad CRC-16; its contents cannot be read, and the model keeps the old ones (log entry 37). -/
def spoiledAudit (a : AuditArea) : AuditArea := { a with crc := ~~~crc16 (auditBytes a.count) }

/-- The metrology area with a bad CRC-16 (log entry 37). -/
def spoiledMetrology (a : StoredMetrology) : StoredMetrology := { a with crc := ~~~crc16 (metrologyBytes a.contents) }

end Sys2Proof.Machine
end

