-- ==== Sys2Proof/Machine/State.lean ====
section
/-! DEFINITION. The state of the JL420, block by block, as plain data. The default value of every field is its value after
power-on reset; values the manual does not give are named in log entry 1. What the manual derives from other state (Ceff, the
verifier state, the printer light, the line condition flags, pin levels) is computed in Machine/Ops.lean and not stored twice. -/

namespace Sys2Proof.Machine

/-- Why a command stops the machine. The manual gives every command an effect, so there is no such reason and the type is
empty: no command of the JL420 can fault. -/
inductive Fault where
  deriving DecidableEq, Repr

/-- Why a command is refused by the model. -/
inductive Refusal where
  /-- Raised by `exec` for a command that has no meaning yet; no arm of this model raises it. Safe: the run stops. -/
  | notModelled (mnemonic : String)
  deriving DecidableEq, Repr

/-! ### Lane Link Interface (section 12.1) -/

/-- Receiver phase (R199). -/
inductive LinkPhase where
  | hunt | frame
  deriving DecidableEq, Repr

/-- The downstream receiver: phase, unescaped bytes of the frame in progress, escape-pending (R199). -/
structure Receiver where
  phase : LinkPhase := .hunt
  bytes : List Byte := []
  escape : Bool := false
  deriving DecidableEq, Repr

/-- The Lane Link Interface (section 12.1). `sent` is the last frame given to the transmitter. -/
structure Link where
  receiver : Receiver := {}
  outstanding : Nat := 0
  replies : List Reply := []
  alerts : List Alert := []
  run : Nat := 0
  linkUp : Option LinkUp := some ⟨.powerOn, 16, 64, partCode, 0, .attended, 0⟩
  sent : Option UpFrame := none
  deriving DecidableEq, Repr

/-! ### Parameters that are not metrology parameters -/

/-- Parameters set with SET_PARAMETER and kept through lane and link reset, at their defaults (R6, R52, R78, R100, R151, R171,
R183, R195, R197). Times are in the unit of their table, RAIL_LOW_LIMIT in tenths of a volt. -/
structure Params where
  channelEnableP : Bool := true
  channelEnableB : Bool := true
  refLifetime : Nat := 180
  bagSettle : Nat := 300
  bagThreshold : Nat := 10000
  bagTolAbs : Nat := 20000
  bagTolPct : Nat := 10
  placeTimeout : Nat := 15
  cardAttempts : Nat := 3
  cardArmTimeout : Nat := 30
  stepperUnits : Nat := 10
  cutterUnits : Nat := 20
  dotCurrent : Nat := 25
  strobeDots : Nat := 128
  headSettle : Nat := 100
  heatTime1 : Nat := 900
  heatTime2 : Nat := 800
  heatTime3 : Nat := 700
  heatTime4 : Nat := 600
  heatTime5 : Nat := 520
  stepPeriod : Nat := 2500
  railCapacity : Nat := 80
  railLowLimit : Nat := 210
  drawerUnits : Nat := 30
  drawerPolarity : Polarity := .activeHigh
  drawerRetries : Nat := 1
  drawerWait : Nat := 10
  drawerPulse : Nat := 100
  drawerConfirm : Nat := 500
  drawerOpenLimit : Nat := 60
  drawerSensorPolarity : SensorPolarity := .openHigh
  closeBeforeSale : Bool := false
  holdLightLine : Option (Fin 8) := none
  printerLightLine : Option (Fin 8) := none
  attendantCondition : Option (Fin 4) := none
  deriving DecidableEq, Repr

/-! ### Metrology Store (chapter 2) -/

/-- A reply held until a store write completes (R30). -/
structure HeldReply where
  code : Byte
  tag : Byte
  body : ReplyBody
  deriving DecidableEq, Repr

/-- The Metrology Store: working copy, audit counter, serial number, the two volatile items, the held reply, the seal switch and
the nonvolatile areas, each with its CRC-16, as they stand outside a write (R28, R29). -/
structure Store where
  audit : Nat := 0
  work : MetrologyArea := {}
  serial : Nat := 0
  writing : Bool := false
  current : Bool := true
  held : Option HeldReply := none
  sealOpen : Bool := false
  sealSettled : Bool := false
  nv : NvAreas := writtenAreas 0 {}
  deriving DecidableEq, Repr

/-! ### Weighing channels (section 1.1) -/

/-- A channel record (section 1.1), with the count window of R32. `silenceStart` is the stamp the silence measure runs from,
absent while it does not run (R2, R4). -/
structure Channel where
  state : ChanState
  lastSample : Stamp := 0
  silenceStart : Option Stamp := some 0
  signalFault : Bool := false
  goodRun : Nat := 0
  filter : List Int := []
  stability : List Int := []
  counts : List Int := []
  stable : Bool := false
  stableSince : Option Stamp := none
  zeroEstablished : Bool := false
  zInit : Int := 0
  zOp : Int := 0
  operatorTare : Int := 0
  itemTare : Option Int := none
  aztStart : Option Stamp := none
  reading : Option Reading := none
  zeroFailed : Bool := false
  mode : ReportMode := .off
  baseline : Option WeightReport := none
  slot : Option WeightReport := none
  due : Option Stamp := none
  deriving DecidableEq, Repr

/-! ### Pricing Unit (section 3.1), Item Table (section 4.1), Bagging Verifier (section 5.1) -/

structure Pricing where
  weighing : Option Weighing := none
  tickets : List Ticket := []
  nextTicket : Nat := 1
  clearRequired : Bool := false
  deriving DecidableEq, Repr

structure Items where
  active : List ItemEntry := []
  generation : Nat := 0
  standby : List ItemEntry := []
  state : StandbyState := .empty
  check : Option (Nat × BitVec 32) := none
  deriving DecidableEq, Repr

/-- What channel B last offered to the verifier: its state, stable flag and Nd (R10, R93). -/
structure Offer where
  state : ChanState := .uncalibrated
  stable : Bool := false
  nd : Option Int := none
  deriving DecidableEq, Repr

/-- The Bagging Verifier; the verifier state follows from the lane mode, the reasons and Wref (R77). `lightDue` is the due time
of the 500 ms measure (R95). -/
structure Bag where
  offered : Offer := {}
  reasons : Reasons := {}
  wref : Option Int := none
  holdReference : Option Int := none
  queue : List Expectation := []
  nextId : Nat := 1
  lightOn : Bool := false
  lightDue : Option Stamp := none
  deriving DecidableEq, Repr

/-! ### Card Port (section 6.1) -/

structure Card where
  port : PortState := .disarmed
  attempts : Nat := 0
  armDue : Option Stamp := none
  buffer : Option CardBuffer := none
  rx : ReaderRx := {}
  lastKind : Option Byte := none
  slips : List Slip := []
  nextSlip : Nat := 1
  deriving DecidableEq, Repr

/-! ### Receipt context (section 7.1) -/

structure Receipt where
  mode : LaneMode := .attended
  state : ReceiptState := .closed
  number : Option Nat := none
  openedTime : Option Stamp := none
  tickets : List Nat := []
  slips : List Nat := []
  tenders : List TenderLine := []
  subtotal : Nat := 0
  permit : Bool := false
  permitOut : Bool := false
  marker : Option Marker := none
  deriving DecidableEq, Repr

/-! ### Print Composer (section 8.1) and Print Mechanism (section 9.1) -/

/-- The Print Composer. The reserved cell is the marker item of `queue`, at most one (R138). -/
structure Composer where
  queue : List QueueItem := []
  lines : List LineEntry := []
  owed : Nat := 0
  deriving DecidableEq, Repr

/-- The Print Mechanism. `stops` is the pending stop followed by the second sensor that waits with it (R161); `done` and `row`
are the row progress of the head entry; `flushed` marks a head entry abandoned while its row completes (R165); the four settled
flags tell whether the input has had its first settling (R169). -/
structure Mech where
  state : PrintState := .idle
  reason : Option StopReason := none
  stops : List PendingStop := []
  hold : MotorHold := .released
  stepperUnits : Option Nat := none
  done : Nat := 0
  row : Option RowWork := none
  flushed : Bool := false
  lastStep : Option Micros := none
  celsius : Int := 20
  sampled : Bool := false
  band : Band := .b2
  overheat : Bool := false
  paperOut : Bool := false
  coverOpen : Bool := false
  nearEnd : Bool := false
  home : Bool := false
  paperSettled : Bool := false
  coverSettled : Bool := false
  nearSettled : Bool := false
  homeSettled : Bool := false
  lingerDue : Option Stamp := none
  jamDue : Option Stamp := none
  headDots : List Nat := []
  deriving DecidableEq, Repr

/-! ### Drive Rail Arbiter (section 10.1) -/

/-- The Drive Rail Arbiter; Ceff and the granted sum follow from it and RAIL_CAPACITY. `voltage` is in tenths of a volt. -/
structure Rail where
  voltage : Nat := 0
  low : Bool := false
  drawer : Claim := {}
  cutter : Claim := {}
  stepper : Claim := {}
  head : Claim := {}
  deriving DecidableEq, Repr

/-! ### Drawer Controller (section 11.1) and lane lines (R193, R196) -/

/-- The Drawer Controller. `level` is the settled level of DR_SENSE, absent before the first settling (R184); `polarity` is the
DRAWER_POLARITY DR_SOL is driven with, which follows the parameter when PG-D is IDLE (R181). -/
structure Drawer where
  state : DrawerState := .closed
  level : Option Bool := none
  authorization : Option Authorization := none
  retriesLeft : Nat := 0
  attempts : Nat := 0
  confirmDue : Option Stamp := none
  openedInPulse : Option Stamp := none
  openStamp : Option Stamp := none
  cause : Option OpenCause := none
  tooLong : Bool := false
  polarity : Polarity := .activeHigh
  deriving DecidableEq, Repr

/-- The lane lines: bit i of `directions` is 1 for Li OUT, bit i of `latches` its output latch (R193). -/
structure Lines where
  directions : BitVec 8 := 0
  latches : BitVec 8 := 0
  inputs : Vector (Option Bool) 8 := Vector.replicate 8 none
  conditions : Vector LineCondition 4 := Vector.replicate 4 {}
  deriving DecidableEq, Repr

/-! ### The whole part -/

structure State where
  /-- Commands waiting to be taken, first in, first out. The MODEL's own. -/
  pending : List Instr := []
  /-- The microsecond clock; the lane clock follows from it (00_scope section 5.1). -/
  clock : Micros := 0
  /-- Every block's latched conditions, in the order of `Condition.all` (R206). -/
  latched : List Condition := []
  link : Link := {}
  params : Params := {}
  store : Store := {}
  chanP : Channel
  chanB : Channel
  pricing : Pricing := {}
  items : Items := {}
  bag : Bag := {}
  card : Card := {}
  receipt : Receipt := {}
  composer : Composer := {}
  mech : Mech := {}
  rail : Rail := {}
  pgH : PulseGen 64 := { wait := 100, pulse := 800 }
  pgD : PulseGen 32 := { wait := 10, pulse := 100 }
  drawer : Drawer := {}
  lines : Lines := {}
  deriving DecidableEq, Repr

/-- Right after power-on reset of a part as it leaves the factory: both nonvolatile areas read good, the audit counter 0, the
parameters at their defaults and neither channel calibrated (log entry 1), so both channels are UNCALIBRATED with CAL_INVALID
latched (R25, R37). -/
def State.reset : State where
  chanP := { state := .uncalibrated }
  chanB := { state := .uncalibrated }
  latched := [.calInvalid .P, .calInvalid .B]

end Sys2Proof.Machine
end

