-- ==== Sys2Proof/Machine/Ops.lean ====
section
/-! DEFINITION. The shared operations: clocks, the block updates of a state, the Alert queue, the Reply queue with the request
credit, and small list operations. -/

namespace Sys2Proof.Machine

/-- What a command answers. -/
abbrev Result := Host.Outcome State Fault Refusal

/-! ### Clocks (00_scope section 5.1, Time) -/

/-- The lane clock: the microsecond clock divided by 1,000, rounded down, modulo 2^32. -/
def State.now (s : State) : Stamp := BitVec.ofNat 32 (s.clock.toNat / 1000)

/-- An age or elapsed time: the difference of two stamps modulo 2^32. -/
def age (now stamp : Stamp) : Nat := (now - stamp).toNat

/-- A due time of the lane clock has been reached: the clock stands less than half its range past it. DEDUCED, log entry 6. -/
def reached (now due : Stamp) : Bool := decide (age now due < 2 ^ 31)

/-- An optional due time is present and reached. -/
def dueReached (now : Stamp) : Option Stamp → Bool
  | none => false
  | some due => reached now due

/-- A stamp `ms` milliseconds after `t`. -/
def after (t : Stamp) (ms : Nat) : Stamp := t + BitVec.ofNat 32 ms

/-! ### Updating one block -/

def State.setLink (s : State) (v : Link) : State := { s with link := v }
def State.setParams (s : State) (v : Params) : State := { s with params := v }
def State.setStore (s : State) (v : Store) : State := { s with store := v }
def State.setPricing (s : State) (v : Pricing) : State := { s with pricing := v }
def State.setItems (s : State) (v : Items) : State := { s with items := v }
def State.setBag (s : State) (v : Bag) : State := { s with bag := v }
def State.setCard (s : State) (v : Card) : State := { s with card := v }
def State.setReceipt (s : State) (v : Receipt) : State := { s with receipt := v }
def State.setComposer (s : State) (v : Composer) : State := { s with composer := v }
def State.setMech (s : State) (v : Mech) : State := { s with mech := v }
def State.setRail (s : State) (v : Rail) : State := { s with rail := v }
def State.setPgH (s : State) (v : PulseGen 64) : State := { s with pgH := v }
def State.setPgD (s : State) (v : PulseGen 32) : State := { s with pgD := v }
def State.setDrawer (s : State) (v : Drawer) : State := { s with drawer := v }
def State.setLines (s : State) (v : Lines) : State := { s with lines := v }
def State.setLatched (s : State) (v : List Condition) : State := { s with latched := v }

/-- The channel record of a scale channel. -/
def State.chan (s : State) : Chan → Channel
  | .P => s.chanP
  | .B => s.chanB

/-- Replaces the record of one scale channel; the other's is a separate record (R2). -/
def State.setChan (s : State) (c : Chan) (v : Channel) : State :=
  match c with
  | .P => { s with chanP := v }
  | .B => { s with chanB := v }

/-! ### Latched conditions (R206) -/

/-- The block a condition belongs to (R20, R36, R118, R140, R166, R172, R191, R206). -/
def Condition.block : Condition → Block
  | .overload c | .underload c | .signalFault c | .zeroRange c | .zeroLimit c | .calInvalid c =>
    match c with
    | .P => .scaleP
    | .B => .scaleB
  | .storeFault => .store
  | .readerFault | .unsolicited => .card
  | .referenceError | .paperOut | .coverOpen | .cutterJam | .paperLow | .headHot => .print
  | .notOpened | .forcedOpen | .openTooLong => .drawer
  | .railLow => .rail
  | .crcDiscard | .intakeOverrun | .alertOverflow => .link

/-- The conditions of one scale channel (R20). -/
def Condition.scale (c : Chan) : List Condition :=
  [.overload c, .underload c, .signalFault c, .zeroRange c, .zeroLimit c, .calInvalid c]

/-- Every condition, in the order in which a latched set is listed. -/
def Condition.all : List Condition :=
  [.crcDiscard, .intakeOverrun, .alertOverflow] ++ Condition.scale .P ++ Condition.scale .B ++
  [.storeFault, .readerFault, .unsolicited,
   .referenceError, .paperOut, .coverOpen, .cutterJam, .paperLow, .headHot,
   .notOpened, .forcedOpen, .openTooLong, .railLow]

/-- A condition latches; latched already, the set stays as it is (R206). -/
def latch (c : Condition) (s : State) : State :=
  s.setLatched (Condition.all.filter fun x => x == c || s.latched.contains x)

/-! ### The Alert queue (R203) -/

/-- An event is placed at the newest end of the Alert queue; with 24 events held it is discarded and ALERT_OVERFLOW latches. -/
def emit (e : Event) (s : State) : State :=
  if s.link.alerts.length < 24 then
    s.setLink { s.link with alerts := s.link.alerts ++ [⟨s.now, e⟩] }
  else latch .alertOverflow s

/-! ### Requests and replies (R200, R202, R203) -/

/-- How a request is answered: at once, or by a reply held until a store write completes (R30). -/
inductive Answer where
  | reply (status : Status) (body : ReplyBody) (s : State)
  | hold (body : ReplyBody) (s : State)

/-- A refusal: the status alone, and nothing changed. -/
def refuse (status : Status) (s : State) : Answer := .reply status .none s

/-- A request that does not carry its fields is answered BAD_REQUEST by its owning block and changes nothing (R200). -/
def formed (h : Header) (judge : State → Answer) (s : State) : Answer :=
  if h.wellFormed then judge s else refuse .badRequest s

/-- The frame that carried a message has been taken off the receiver, which stays in FRAME with no bytes held (R199). -/
def frameTaken (s : State) : State :=
  s.setLink { s.link with receiver := { phase := .frame, bytes := [], escape := false } }

/-- A reply is placed at the newest end of the Reply queue (R203). -/
def placeReply (r : Reply) (s : State) : State :=
  s.setLink { s.link with replies := s.link.replies ++ [r] }

/-- The request is outstanding from its arrival until its reply leaves (R202). -/
def countRequest (s : State) : State :=
  s.setLink { s.link with outstanding := s.link.outstanding + 1 }

/-- Gives an answer its place: in the Reply queue, or held in the store until the write completes. -/
def settleAnswer (code tag : Byte) : Answer → State
  | .reply status body s => placeReply ⟨code, tag, status, body⟩ s
  | .hold body s => s.setStore { s.store with held := some ⟨code, tag, body⟩ }

/-- A request arrives: with a credit it is judged and answered, without one it is discarded and INTAKE_OVERRUN latches (R202). -/
def request (h : Header) (code : Byte) (judge : State → Answer) (s : State) : State :=
  if s.link.outstanding < 16 then settleAnswer code h.tag (judge (countRequest (frameTaken s)))
  else latch .intakeOverrun (frameTaken s)

/-! ### Lists and identities -/

/-- Adds at the newest end of an ordered window of capacity `n`; the oldest values leave (R8, R18, R32). -/
def pushWindow (n : Nat) (w : List Int) (x : Int) : List Int :=
  (w ++ [x]).drop (w.length + 1 - n)

/-- The next identity after `n` in 1..`top`, from `top` to 1. -/
def advanceOnce (top n : Nat) : Nat := if n ≥ top then 1 else n + 1

/-- The next identity after `n`, passing over every one still held (R49, R79, R112); `fuel` bounds the numbers passed over. -/
def advanceId (top : Nat) (held : List Nat) : Nat → Nat → Nat
  | 0, n => advanceOnce top n
  | fuel + 1, n =>
    if held.contains (advanceOnce top n) then advanceId top held fuel (advanceOnce top n) else advanceOnce top n

/-- Splits a list into pieces of `n` (a piece is never empty, so 0 is taken as 1; R154 keeps it at least 8). `fuel` is the
length of the list. -/
def chunks {α : Type} (n : Nat) : Nat → List α → List (List α)
  | _, [] => []
  | 0, _ => []
  | fuel + 1, l => l.take (max n 1) :: chunks n fuel (l.drop (max n 1))

/-- Some reason is in the set. -/
def Reasons.any (r : Reasons) : Bool := r.unexpected || r.removed || r.overdue || r.scaleFault

end Sys2Proof.Machine
end

