-- ==== Sys2Proof/Machine/Lines.lean ====
section
/-! DEFINITION. The lane lines, the line conditions and the attendant condition (chapter 11, R193 to R198). -/

namespace Sys2Proof.Machine

/-! ### Line conditions (R196) -/

/-- The tested lines of a condition: in its mask, IN, and with a debounced input (R196). -/
def testedLines (l : Lines) (c : LineCondition) : List (Fin 8) :=
  (List.finRange 8).filter fun i =>
    c.mask.getLsbD i && !l.directions.getLsbD i && (l.inputs.get i).isSome

/-- A tested line matches when its input equals its pattern value (R196). -/
def lineMatches (l : Lines) (c : LineCondition) (i : Fin 8) : Bool :=
  l.inputs.get i == some (c.pattern.getLsbD i)

/-- The four flags; with no tested line all are false (R196). -/
def lineFlags (l : Lines) (c : LineCondition) : LineFlags where
  allMatch := !(testedLines l c).isEmpty && (testedLines l c).all (lineMatches l c)
  noneMatch := !(testedLines l c).isEmpty && (testedLines l c).all fun i => !lineMatches l c i
  anyMatch := (testedLines l c).any (lineMatches l c)
  anyMismatch := (testedLines l c).any fun i => !lineMatches l c i

/-- The flag the sense selects (R196). -/
def conditionValue (l : Lines) (c : LineCondition) : Bool :=
  match c.sense with
  | .allMatch => (lineFlags l c).allMatch
  | .noneMatch => (lineFlags l c).noneMatch
  | .anyMatch => (lineFlags l c).anyMatch
  | .anyMismatch => (lineFlags l c).anyMismatch

/-- The attendant condition: the value of the condition ATTENDANT_CONDITION names, false with NONE (R197). -/
def State.attendant (s : State) : Bool :=
  match s.params.attendantCondition with
  | none => false
  | some i => conditionValue s.lines (s.lines.conditions.get i)

/-- Emits ATTENDANT_ON or ATTENDANT_OFF when the attendant condition has changed from `before` (R197). The event names the condition
ATTENDANT_CONDITION names after its cause, NONE when it was just set so (DESIGN CHOICE, log entry 47). -/
def noteAttendant (before : Bool) (s : State) : State :=
  if before == s.attendant then s
  else if s.attendant then emit (.lane (.attendantOn s.params.attendantCondition)) s
  else emit (.lane (.attendantOff s.params.attendantCondition)) s

/-! ### Roles and pins (R193, R195) -/

/-- The printer light (R167). -/
def State.printerLight (s : State) : Bool := s.mech.state == .stopped || s.mech.nearEnd

/-- The lines that hold a role, as a set (R195). -/
def roleLines (p : Params) : BitVec 8 :=
  (match p.holdLightLine with | none => 0#8 | some i => 1#8 <<< i.val) |||
  (match p.printerLightLine with | none => 0#8 | some i => 1#8 <<< i.val)

/-- The level on a line's pin: its role or its latch when OUT, the lane's own level when IN (R193, R195, R198). -/
def State.pinLevel (s : State) (i : Fin 8) : Bool :=
  if s.lines.directions.getLsbD i then
    if s.params.holdLightLine == some i then s.bag.lightOn
    else if s.params.printerLightLine == some i then s.printerLight
    else s.lines.latches.getLsbD i
  else Config.pinLevel s.clock i

/-! ### Requests and input changes -/

/-- A line whose direction changes has no debounced input until its level has been held as an input (R193). -/
def redirect (l : Lines) (directions : BitVec 8) : Lines :=
  { l with
    directions := directions
    inputs := Vector.ofFn fun i =>
      if l.directions.getLsbD i == directions.getLsbD i then l.inputs.get i else none }

/-- LINES_CONFIG DIRECTIONS (R193). -/
def linesConfigDirections (directions : BitVec 8) (s : State) : Answer :=
  .reply .ok (.lineDirections directions s.lines.latches)
    (noteAttendant s.attendant (s.setLines (redirect s.lines directions)))

/-- LINES_CONFIG CONDITION (R196). An unknown condition or sense is BAD_REQUEST (R201: unknown name or operand). -/
def linesConfigCondition (condition : Option (Fin 4)) (mask pattern : BitVec 8) (sense : Option Sense) (s : State) :
    Answer :=
  match condition, sense with
  | some i, some sense =>
    let definition : LineCondition := ⟨mask, pattern, sense⟩
    .reply .ok (.lineCondition (lineFlags s.lines definition) (conditionValue s.lines definition))
      (noteAttendant s.attendant
        (s.setLines { s.lines with conditions := s.lines.conditions.set i definition i.isLt }))
  | _, _ => refuse .badRequest s

/-- The latches after a LINES_WRITE: mode 0 takes the data, mode 1 inverts on data 1, a role line keeps its latch (R194). -/
def writtenLatches (latches mode data roles : BitVec 8) : BitVec 8 :=
  (roles &&& latches) ||| (~~~roles &&& ((mode &&& (latches ^^^ data)) ||| (~~~mode &&& data)))

/-- LINES_WRITE (R194). -/
def linesWrite (mode data : BitVec 8) (s : State) : Answer :=
  let latches := writtenLatches s.lines.latches mode data (roleLines s.params)
  .reply .ok (.lineLatches latches (roleLines s.params)) (s.setLines { s.lines with latches := latches })

/-- What LINES_READ says of one line (R198). -/
def lineReport (s : State) (i : Fin 8) : LineReport where
  isOut := s.lines.directions.getLsbD i
  latch := s.lines.latches.getLsbD i
  input := s.lines.inputs.get i
  level := s.pinLevel i

/-- What LINES_READ says of one condition (R198). -/
def conditionReport (s : State) (i : Fin 4) : ConditionReport where
  definition := s.lines.conditions.get i
  flags := lineFlags s.lines (s.lines.conditions.get i)
  value := conditionValue s.lines (s.lines.conditions.get i)

/-- The LINES_READ reply (R198). -/
def linesReport (s : State) : ReplyBody :=
  .lines ((List.finRange 8).map (lineReport s)) ((List.finRange 4).map (conditionReport s))
    s.params.holdLightLine s.params.printerLightLine s.params.attendantCondition s.attendant

/-- A debounced input of an IN line is taken, and the conditions are evaluated again in its event (R193, R196). -/
def lineInputChange (i : Fin 8) (level : Bool) (s : State) : State :=
  if s.lines.directions.getLsbD i then s
  else noteAttendant s.attendant
    (s.setLines { s.lines with inputs := s.lines.inputs.set i (some level) i.isLt })

/-! ### The commands -/

def execLinesConfigDirections (h : Header) (directions : BitVec 8) (s : State) : Result :=
  .next (request h 0x11 (formed h (linesConfigDirections directions)) s)

def execLinesConfigCondition (h : Header) (condition : Option (Fin 4)) (mask pattern : BitVec 8) (sense : Option Sense)
    (s : State) : Result :=
  .next (request h 0x11 (formed h (linesConfigCondition condition mask pattern sense)) s)

def execLinesWrite (h : Header) (mode data : BitVec 8) (s : State) : Result :=
  .next (request h 0x12 (formed h (linesWrite mode data)) s)

/-- LINES_READ is taken in every state and changes nothing (R198). -/
def execLinesRead (h : Header) (s : State) : Result :=
  .next (request h 0x13 (formed h fun s => .reply .ok (linesReport s) s) s)

def execLineInputChange (line : Fin 8) (level : Bool) (s : State) : Result :=
  .next (lineInputChange line level s)

end Sys2Proof.Machine
end

