-- ==== Sys2Proof/Machine/Scale.lean ====
section
/-! DEFINITION. The weighing channels between sample arrivals: the metrology quantities, the arithmetic of a reading, weight
reports, the zero and tare requests and the report modes (chapter 1). The sample arrival itself is in Machine/Weighing.lean. -/

namespace Sys2Proof.Machine

/-! ### Metrology quantities (R1) -/

def maxOf (m : MetParams) : Chan → Int
  | .P => m.pMax
  | .B => m.bMax

def max1Of (m : MetParams) : Chan → Int
  | .P => m.pMax1
  | .B => m.bMax

def e1Of (m : MetParams) : Chan → Int
  | .P => m.pE1
  | .B => m.bE

def e2Of (m : MetParams) : Chan → Int
  | .P => m.pE2
  | .B => m.bE

def minOf (m : MetParams) (c : Chan) : Int := 20 * e1Of m c

def filterLenOf (m : MetParams) : Chan → Nat
  | .P => m.filterLenP
  | .B => m.filterLenB

/-- STAB_BAND in mg: a half, one or two times e1 (R18). -/
def bandOf (m : MetParams) (c : Chan) : Int :=
  match m.stabBand with
  | .half => e1Of m c / 2
  | .one => e1Of m c
  | .two => 2 * e1Of m c

def calOf (w : MetrologyArea) : Chan → CalRecord
  | .P => w.calP
  | .B => w.calB

/-- The metrology parameters in force: those of the working copy (R28). -/
def State.met (s : State) : MetParams := s.store.work.params

/-! ### Arithmetic (R8, R9, R14, R17) -/

/-- Held at the limits of a signed 32-bit integer (R9). -/
def clamp32 (x : Int) : Int := max (-2147483648) (min 2147483647 x)

/-- The multiple of `e` nearest to `x`, halves up (R14). -/
def roundHalfUp (e x : Int) : Int := e * ((x + e / 2) / e)

/-- The multiple of `e` nearest to `x`, halves away from zero (R17). -/
def roundAway (e x : Int) : Int :=
  if 0 ≤ x then e * ((x + e / 2) / e) else -(e * ((-x + e / 2) / e))

/-- The filtered value of a full window of `n` samples: the mean rounded to nearest, halves toward plus infinity (R8). -/
def filtered (n : Nat) (window : List Int) : Int := (window.sum + (n : Int) / 2) / (n : Int)

/-- Raw gross of the filtered value: the product over 2^24, to nearest with halves away from zero, held at 32 bits (R9). -/
def rawGross (zCal : Int) (span : Nat) (f : Int) : Int :=
  let p := (f - zCal) * (span : Int)
  clamp32 (if 0 ≤ p then (p + 2 ^ 23) / 2 ^ 24 else -((-p + 2 ^ 23) / 2 ^ 24))

/-- The interval of an unrounded net: 2 above Max1 on channel P, always 1 on channel B (R17). -/
def intervalOf (m : MetParams) (c : Chan) (net : Int) : Nat :=
  match c with
  | .P => if net ≤ m.pMax1 then 1 else 2
  | .B => 1

/-- The division of the interval a weight lies in (R17). -/
def divisionOf (m : MetParams) (c : Chan) (net : Int) : Int :=
  if intervalOf m c net = 1 then e1Of m c else e2Of m c

/-- Largest less smallest value of a window (R18, R32). -/
def spread (w : List Int) : Int :=
  match w with
  | [] => 0
  | x :: l => l.foldl max x - l.foldl min x

/-! ### Tare (R1) -/

/-- The effective tare: the item tare while present, else the operator tare. -/
def Channel.tare (ch : Channel) : Int := ch.itemTare.getD ch.operatorTare

/-- The source of the effective tare. -/
def Channel.tareSource (ch : Channel) : TareSource :=
  if ch.itemTare.isSome then .item else if ch.operatorTare = 0 then .none else .operator

/-! ### The current reading (R10, R17) -/

/-- The reading of a raw gross with the zero, tare and state the channel holds. Nd and gross rounded are present while the
channel is READY with neither limit flag (R10, R19). -/
def weigh (m : MetParams) (c : Chan) (ch : Channel) (g : Int) (overload underload : Bool) (stamp : Stamp) : Reading :=
  let gross := clamp32 (g - ch.zOp)
  let net := clamp32 (gross - ch.tare)
  let shown := ch.state == .ready && !overload && !underload
  { state := ch.state, g := g, gross := gross, tare := ch.tare, source := ch.tareSource, net := net
    interval := intervalOf m c net
    nd := if shown then some (roundAway (divisionOf m c net) net) else none
    grossRounded := if shown then some (roundAway (divisionOf m c gross) gross) else none
    stable := ch.stable, stableSince := ch.stableSince, overload := overload, underload := underload, stamp := stamp }

/-- A change of Z_op or T between arrivals: G, N, the interval and the rounded values are computed at once from the g of the
current reading, the limit flags are carried over (R10, after step 8). -/
def recompute (c : Chan) (s : State) : State :=
  match (s.chan c).reading with
  | none => s
  | some r =>
    s.setChan c { s.chan c with
      reading := some (weigh s.met c (s.chan c) r.g r.overload r.underload r.stamp) }

/-- A new operating zero; the stability window is expressed against it (R18). -/
def rezero (ch : Channel) (zOp : Int) : Channel :=
  { ch with zOp := zOp, stability := ch.stability.map fun x => x + ch.zOp - zOp }

/-! ### Weight reports (R21, R23) -/

/-- A weight report as the channel stands (R21). -/
def buildReport (s : State) (c : Chan) : WeightReport :=
  let ch := s.chan c
  let isReady := ch.state == .ready
  { channel := c, state := ch.state
    stable := ch.stable && (ch.state == .zeroing || isReady)
    nd := if isReady then ch.reading.bind (·.nd) else none
    grossRounded := if isReady then ch.reading.bind (·.grossRounded) else none
    tare := ch.tare, source := ch.tareSource
    interval := if isReady then ch.reading.map (·.interval) else none
    overload := if isReady then ch.reading.map (·.overload) else none
    underload := if isReady then ch.reading.map (·.underload) else none
    stamp := s.now }

/-- A report is placed: it takes the slot, where it replaces one not yet sent, and becomes the baseline (R21). -/
def placeReport (c : Chan) (s : State) : State :=
  s.setChan c { s.chan c with slot := some (buildReport s c), baseline := some (buildReport s c) }

/-- Two reports differ in a compared field (R23): a difference in the stamp or in gross rounded alone is none. -/
def reportDiffers (a b : WeightReport) : Bool :=
  a.state != b.state || a.stable != b.stable || a.nd != b.nd || a.interval != b.interval || a.tare != b.tare ||
  a.source != b.source || a.overload != b.overload || a.underload != b.underload

/-- A point of comparison: in ON_CHANGE a report is placed when the baseline is absent or differs (R23). -/
def considerReport (c : Chan) (s : State) : State :=
  if (s.chan c).mode = .onChange then
    match (s.chan c).baseline with
    | none => placeReport c s
    | some b => if reportDiffers (buildReport s c) b then placeReport c s else s
  else s

/-- What follows a change of zero or tare by a request (R10, R23). -/
def retared (c : Chan) (s : State) : State := considerReport c (recompute c s)

/-! ### Automatic zero tracking (R13) -/

/-- The corrected operating zero, and whether it was clamped to the edge of the window (R13). -/
def aztTarget (m : MetParams) (c : Chan) (zInit g : Int) : Int × Bool :=
  let window := maxOf m c / 50
  if ((g - zInit).natAbs : Int) ≤ window then (g, false)
  else if zInit < g then (zInit + window, true) else (zInit - window, true)

/-- Zero tracking at a READY arrival with raw gross `g` and gross `gross`; the flag says ZERO_LIMIT is to be latched (R13). -/
def trackZero (m : MetParams) (c : Chan) (now : Stamp) (ch : Channel) (g gross : Int) : Channel × Bool :=
  if !m.aztEnable || !ch.stable || ch.tare != 0 || decide ((gross.natAbs : Int) > e1Of m c / 2) then
    ({ ch with aztStart := none }, false)
  else
    match ch.aztStart with
    | none => ({ ch with aztStart := some now }, false)
    | some start =>
      if 1000 ≤ age now start then
        ({ rezero ch (aztTarget m c ch.zInit g).1 with aztStart := some now }, (aztTarget m c ch.zInit g).2)
      else (ch, false)

/-! ### ZERO, TARE, TARE_PRESET, TARE_CLEAR (R12, R14, R15) -/

/-- An accepted ZERO (R12): Z_op takes the g of the reading and a running dwell restarts. -/
def zeroChannel (now : Stamp) (ch : Channel) (g : Int) : Channel :=
  { rezero ch g with aztStart := ch.aztStart.map fun _ => now }

/-- ZERO (R12). -/
def zeroRequest (channel : Option Chan) (s : State) : Answer :=
  match channel with
  | none => refuse .badRequest s
  | some c =>
    if (s.chan c).state ≠ .ready then refuse .wrongState s
    else
      match (s.chan c).reading with
      | none => refuse .notStable s
      | some r =>
        if !r.stable then refuse .notStable s
        else if (s.chan c).tare ≠ 0 then refuse .wrongState s
        else if ((r.g - (s.chan c).zInit).natAbs : Int) * 50 ≤ maxOf s.met c then
          .reply .ok .none (retared c (s.setChan c (zeroChannel s.now (s.chan c) r.g)))
        else refuse .outOfRange s

/-- TARE (R14). -/
def tareRequest (channel : Option Chan) (s : State) : Answer :=
  if channel ≠ some .P then refuse .badRequest s
  else if s.chanP.state ≠ .ready then refuse .wrongState s
  else if s.chanP.itemTare.isSome then refuse .wrongState s
  else
    match s.chanP.reading with
    | none => refuse .notStable s
    | some r =>
      if !r.stable then refuse .notStable s
      else if s.met.pE1 ≤ r.gross ∧ r.gross ≤ s.met.pMax1 then
        .reply .ok .none
          (retared .P (s.setChan .P
            { s.chanP with operatorTare := roundHalfUp s.met.pE1 r.gross, aztStart := none }))
      else refuse .outOfRange s

/-- TARE_PRESET (R15). -/
def tarePresetRequest (channel : Option Chan) (value : Int) (s : State) : Answer :=
  if channel ≠ some .P then refuse .badRequest s
  else if s.chanP.state ≠ .ready then refuse .wrongState s
  else if s.chanP.itemTare.isSome then refuse .wrongState s
  else if value < 0 ∨ s.met.pMax1 < roundHalfUp s.met.pE1 value then refuse .outOfRange s
  else
    .reply .ok (.operatorTare (roundHalfUp s.met.pE1 value))
      (retared .P (s.setChan .P { s.chanP with operatorTare := roundHalfUp s.met.pE1 value }))

/-- TARE_CLEAR, taken in every state (R15). -/
def tareClearRequest (channel : Option Chan) (s : State) : Answer :=
  if channel ≠ some .P then refuse .badRequest s
  else .reply .ok .none (retared .P (s.setChan .P { s.chanP with operatorTare := 0 }))

/-! ### REPORT_MODE and the periodic report (R22, R24) -/

/-- An accepted REPORT_MODE (R22). -/
def setReportMode (c : Chan) (mode : ReportMode) (s : State) : State :=
  match mode with
  | .off => s.setChan c { s.chan c with mode := .off, slot := none, baseline := none, due := none }
  | .onChange => placeReport c (s.setChan c { s.chan c with mode := .onChange, baseline := none, due := none })
  | .periodic n =>
    placeReport c (s.setChan c { s.chan c with mode := .periodic n, due := some (after s.now (n * 50)) })

/-- REPORT_MODE, taken in every channel state (R22). -/
def reportModeRequest (channel : Option Chan) (mode : Option ReportMode) (s : State) : Answer :=
  match channel, mode with
  | some c, some (.periodic n) =>
    if 1 ≤ n ∧ n ≤ 200 then .reply .ok .none (setReportMode c (.periodic n) s) else refuse .outOfRange s
  | some c, some mode => .reply .ok .none (setReportMode c mode s)
  | _, _ => refuse .badRequest s

/-- The period of a PERIODIC channel has expired (R24). -/
def periodDue (c : Chan) (s : State) : Bool :=
  match (s.chan c).mode with
  | .periodic _ => dueReached s.now (s.chan c).due
  | _ => false

/-- The periodic report; the next due time is the previous one plus the period (R24). Not due: nothing happens. -/
def periodicReport (c : Chan) (s : State) : State :=
  match (s.chan c).mode, (s.chan c).due with
  | .periodic n, some due =>
    if reached s.now due then
      placeReport c (s.setChan c { s.chan c with due := some (after due (n * 50)) })
    else s
  | _, _ => s

/-! ### The commands -/

def execZero (h : Header) (channel : Option Chan) (s : State) : Result :=
  .next (request h 0x01 (formed h (zeroRequest channel)) s)

def execTare (h : Header) (channel : Option Chan) (s : State) : Result :=
  .next (request h 0x02 (formed h (tareRequest channel)) s)

def execTarePreset (h : Header) (channel : Option Chan) (value : Int) (s : State) : Result :=
  .next (request h 0x03 (formed h (tarePresetRequest channel value)) s)

def execTareClear (h : Header) (channel : Option Chan) (s : State) : Result :=
  .next (request h 0x04 (formed h (tareClearRequest channel)) s)

def execReportMode (h : Header) (channel : Option Chan) (mode : Option ReportMode) (s : State) : Result :=
  .next (request h 0x0A (formed h (reportModeRequest channel mode)) s)

def execPeriodicReport (channel : Chan) (s : State) : Result :=
  .next (periodicReport channel s)

end Sys2Proof.Machine
end

