-- ==== Sys2Proof/Machine/Bagging.lean ====
section
/-! DEFINITION. The Bagging Verifier: the hold reason set, the Expectation Queue, the judgment of channel B's readings, scale
faults, override and status (chapter 5, R77 to R99). -/

namespace Sys2Proof.Machine

/-! ### Verifier state and the hold (R77, R95) -/

/-- The verifier state follows from the lane mode, the hold reason set and Wref (R77). -/
def State.verifier (s : State) : VerifierState :=
  match s.receipt.mode with
  | .attended => .idle
  | .selfService => if s.bag.reasons.any then .hold else if s.bag.wref.isSome then .watching else .settling

/-- A BAG_EVENT carries the hold reason set and Wref as they stand after its cause (R96). -/
def emitBag (kind : BagKind) (s : State) : State := emit (.bag kind s.bag.reasons s.bag.wref) s

/-- The end of an event that may have changed the reason set: HOLD_ENTERED with the light ON when it went from empty to not
empty, HOLD_CLEARED with the cause and the light OFF when it went from not empty to empty (R77, R95, R96). -/
def finishHold (before : State) (cause : ClearCause) (s : State) : State :=
  if !before.bag.reasons.any && s.bag.reasons.any then
    emitBag .holdEntered (s.setBag { s.bag with lightOn := true, lightDue := some (after s.now 500) })
  else if before.bag.reasons.any && !s.bag.reasons.any then
    emitBag (.holdCleared cause before.bag.reasons) (s.setBag { s.bag with lightOn := false, lightDue := none })
  else s

/-! ### Expectations (R79, R80) -/

/-- The reason OVERDUE stays in the set while an OVERDUE expectation is in the queue (R83). -/
def overdueReason (b : Bag) : Bag :=
  { b with reasons := { b.reasons with overdue := b.reasons.overdue && b.queue.any (·.overdue) } }

/-- Takes the expectations that satisfy `p` out of the queue; the others keep their order (R79, R83). -/
def removeExpectations (p : Expectation → Bool) (s : State) : State :=
  s.setBag (overdueReason { s.bag with queue := s.bag.queue.filter fun e => !p e })

/-- The tolerance of an expected delta: the given one, else the larger of the two defaults (R80). -/
def toleranceOf (p : Params) (given : Option Int) (delta : Int) : Int :=
  given.getD (max (p.bagTolAbs : Int) ((p.bagTolPct : Int) * delta / 100))

/-- The expectation a posting makes (R79, R80). -/
def newExpectation (s : State) (delta : Int) (tolerance : Option Int) (source : ExpectationSource) : Expectation :=
  let t := toleranceOf s.params tolerance delta
  { id := s.bag.nextId, delta := delta, low := delta - t, high := delta + t, source := source, posted := s.now
    overdue := false }

/-- An expectation is posted at the newest end, and the next id advances past the ids held (R79). -/
def postExpectation (e : Expectation) (s : State) : State :=
  let queue := s.bag.queue ++ [e]
  s.setBag { s.bag with queue := queue, nextId := advanceId 255 (queue.map (·.id)) 9 s.bag.nextId }

/-- The expectation a ticket posted, while it is in the queue: its id and its source must both name the ticket (R52, R53). -/
def ticketExpectation (s : State) (t : Ticket) : Option Expectation :=
  t.expectation.bind fun id => s.bag.queue.find? fun e => e.id == id && e.source == .ticket t.number

/-- Removes a ticket's expectation with the ticket (R52, R53). -/
def removeTicketExpectation (t : Ticket) (s : State) : State :=
  match ticketExpectation s t with
  | none => s
  | some e => removeExpectations (fun x => x == e) s

/-- The entry of a bank with a code (R60: at most one). -/
def findEntry (bank : List ItemEntry) (code : Nat) : Option ItemEntry := bank.find? fun e => e.code == code

/-! ### Readings of channel B (R85 to R91) -/

/-- The Nd of channel B's current reading when it is usable: READY, stable, Nd present (R85). -/
def usableNd (s : State) : Option Int :=
  if s.chanB.state = .ready then
    match s.chanB.reading with
    | some r => if r.stable then r.nd else none
    | none => none
  else none

/-- Channel B's current reading carries the overload flag. -/
def overloadB (s : State) : Bool :=
  match s.chanB.reading with
  | some r => r.overload
  | none => false

/-- The reason SCALE_FAULT is added, with its event; present already, nothing happens (R90). -/
def addScaleFault (s : State) : State :=
  if s.bag.reasons.scaleFault then s
  else emitBag (.scaleFault s.chanB.state (overloadB s))
    (s.setBag { s.bag with reasons := { s.bag.reasons with scaleFault := true } })

/-- Channel B has entered a state other than READY: a scale fault in SELF mode (R90). -/
def scaleLost (s : State) : State :=
  match s.receipt.mode with
  | .attended => s
  | .selfService => finishHold s .scaleOk (addScaleFault s)

/-- Wref is taken while absent (R85, R91). -/
def setReference (nd : Int) (s : State) : State :=
  emitBag (.referenceSet nd) (s.setBag { s.bag with wref := some nd })

/-- An unexplained change: the reason is added, the hold reference takes Wref, Wref stays (R87). -/
def holdChange (kind : BagKind) (reasons : Reasons) (s : State) : State :=
  emitBag kind (s.setBag { s.bag with reasons := reasons, holdReference := s.bag.wref })

/-- A stable change during a receipt (R86, R87). -/
def judgeChange (nd change : Int) (s : State) : State :=
  if change < 0 then
    finishHold s .returned (holdChange (.itemRemoved change) { s.bag.reasons with removed := true } s)
  else
    match s.bag.queue.find? fun e => decide (e.low ≤ change ∧ change ≤ e.high) with
    | some e =>
      finishHold s .expectationGone
        (emitBag (.placedOk e.id e.source e.delta change)
          (let t := removeExpectations (fun x => x == e) s
           t.setBag { t.bag with wref := some nd }))
    | none =>
      finishHold s .returned
        (holdChange (if s.bag.queue.isEmpty then .unexpectedItem change else .unexpectedWeight change)
          { s.bag.reasons with unexpected := true } s)

/-- A stable change while the receipt is CLOSED: Wref follows, no reason is added (R89). -/
def judgeIdleChange (nd change : Int) (s : State) : State :=
  let t := s.setBag { s.bag with wref := some nd }
  if change < 0 then emitBag (.bagsTaken change) t else emitBag (.addedIdle change) t

/-- The change reaches BAG_THRESHOLD (R85). -/
def isChange (s : State) (change : Int) : Bool := decide ((s.params.bagThreshold : Int) ≤ (change.natAbs : Int))

/-- The return test passes: the reading is back within BAG_THRESHOLD of the hold reference (R88). -/
def returned (s : State) (nd : Int) : Bool :=
  match s.bag.holdReference with
  | some r => !isChange s (nd - r)
  | none => false

/-- A passed return test: UNEXPECTED and REMOVED leave, Wref takes the reading (R88). -/
def takeReturn (nd : Int) (s : State) : State :=
  finishHold s .returned (emitBag (.returned nd)
    (s.setBag { s.bag with
      reasons := { s.bag.reasons with unexpected := false, removed := false }
      holdReference := none
      wref := some nd }))

/-- The judgment of a settled reading with Wref present (R85 to R89). -/
def judgeSettled (nd wref : Int) (s : State) : State :=
  let change := nd - wref
  if s.bag.reasons.unexpected || s.bag.reasons.removed then
    if returned s nd then takeReturn nd s
    else if s.receipt.state = .closed ∧ isChange s change then judgeIdleChange nd change s
    else s
  else if !isChange s change then s
  else if s.receipt.state = .closed then judgeIdleChange nd change s
  else judgeChange nd change s

/-- The first usable reading after a scale fault (R91). -/
def takeScaleOk (nd : Int) (s : State) : State :=
  let cleared := s.setBag { s.bag with reasons := { s.bag.reasons with scaleFault := false } }
  match s.bag.wref with
  | none => finishHold s .scaleOk (emitBag (.scaleOk nd false) (setReference nd cleared))
  | some wref =>
    if !(s.bag.reasons.unexpected || s.bag.reasons.removed) && isChange s (nd - wref) then
      finishHold s .scaleOk (emitBag (.scaleOk nd true)
        (cleared.setBag { cleared.bag with
          reasons := { cleared.bag.reasons with unexpected := true }
          holdReference := some wref }))
    else finishHold s .scaleOk (emitBag (.scaleOk nd false) cleared)

/-- The reading has been stable for BAG_SETTLE (R85). -/
def settled (s : State) : Bool :=
  match s.chanB.reading with
  | some r =>
    match r.stableSince with
    | some since => decide (s.params.bagSettle ≤ age s.now since)
    | none => false
  | none => false

/-- Channel B offers its reading at a sample arrival (R85, R90, R91). In IDLE it is ignored. -/
def offerB (s : State) : State :=
  match s.receipt.mode with
  | .attended => s
  | .selfService =>
    if overloadB s then finishHold s .scaleOk (addScaleFault s)
    else
      match usableNd s with
      | none => s
      | some nd =>
        if s.bag.reasons.scaleFault then takeScaleOk nd s
        else
          match s.bag.wref with
          | none => setReference nd s
          | some wref => if settled s then judgeSettled nd wref s else s

/-! ### Timers (R83, R95) -/

/-- A WAITING expectation has reached PLACE_TIMEOUT (R83). -/
def placeDue (s : State) (e : Expectation) : Bool :=
  !e.overdue && decide (s.params.placeTimeout * 1000 ≤ age s.now e.posted)

/-- The expectation becomes OVERDUE and the reason is added, with its event (R83). -/
def timeOut (e : Expectation) (s : State) : State :=
  emitBag (.placeTimeout e.id e.source e.delta)
    (s.setBag { s.bag with
      queue := s.bag.queue.map fun x => if x == e then { x with overdue := true } else x
      reasons := { s.bag.reasons with overdue := true } })

/-- Every WAITING expectation past PLACE_TIMEOUT becomes OVERDUE, in posting order; HOLD_ENTERED is the last event (R83, R96). -/
def timeOutAll (s : State) : State :=
  finishHold s .expectationGone ((s.bag.queue.filter (placeDue s)).foldl (fun t e => timeOut e t) s)

/-- The expiry of one expectation; not due, nothing happens (R83). -/
def placeTimeout (id : Nat) (s : State) : State :=
  match s.bag.queue.find? fun e => e.id == id with
  | some e => if placeDue s e then finishHold s .expectationGone (timeOut e s) else s
  | none => s

/-- The 500 ms measure expires in HOLD: the phase toggles, and the measure restarts from its due time (R95). -/
def toggleLight (s : State) : State :=
  match s.bag.lightDue with
  | some due =>
    if s.verifier = .hold ∧ reached s.now due then
      s.setBag { s.bag with lightOn := !s.bag.lightOn, lightDue := some (after due 500) }
    else s
  | none => s

/-! ### Requests (R81, R82, R84, R92, R93) -/

/-- Posts the expectation of an accepted EXPECT (R81). -/
def postExpect (delta : Int) (tolerance : Option Int) (source : ExpectationSource) (s : State) : Answer :=
  let e := newExpectation s delta tolerance source
  if s.bag.queue.length < 8 then
    .reply .ok (.expectationPosted e.id e.delta e.low e.high) (postExpectation e s)
  else refuse .queueFull s

/-- A value is in 0 or 1 to 60,000,000 mg (R61, R81). -/
def weightInRange (low : Int) (w : Int) : Bool := decide (low ≤ w ∧ w ≤ 60000000)

/-- EXPECT (R81). A tolerance goes with an inline weight only. -/
def expectRequest (item : Option Nat) (weight tolerance : Option Int) (s : State) : Answer :=
  match item, weight with
  | some code, none =>
    if tolerance.isSome then refuse .badRequest s
    else if s.receipt.mode = .selfService ∧ (s.receipt.state = .opened ∨ s.receipt.state = .tendering) then
      match (findEntry s.items.active code).bind fun e => e.bagWeight.map fun w => (e, w) with
      | some (e, w) => postExpect w e.bagTolerance (.item code) s
      | none => refuse .unknownItem s
    else refuse .wrongState s
  | none, some w =>
    if s.receipt.mode = .selfService ∧ (s.receipt.state = .opened ∨ s.receipt.state = .tendering) then
      if weightInRange 1 w && (match tolerance with | some t => weightInRange 0 t | none => true) then
        postExpect w tolerance .inlineWeight s
      else refuse .outOfRange s
    else refuse .wrongState s
  | _, _ => refuse .badRequest s

/-- EXPECT_CANCEL (R84). -/
def expectCancelRequest (id : Nat) (s : State) : Answer :=
  if !s.attendant then refuse .attendantRequired s
  else
    match s.bag.queue.find? fun e => e.id == id with
    | none => refuse .unknownExpectation s
    | some e =>
      .reply .ok (.expectation e) (finishHold s .expectationGone (removeExpectations (fun x => x == e) s))

/-- An accepted OVERRIDE (R92). -/
def overridden (s : State) : State :=
  let waiting := s.bag.queue.filter fun e => !e.overdue
  let cleared := s.setBag { s.bag with queue := waiting, reasons := {}, holdReference := none }
  let faulted := if s.chanB.state ≠ .ready ∨ overloadB s then addScaleFault cleared else cleared
  finishHold s .override (faulted.setBag { faulted.bag with wref := usableNd s })

/-- OVERRIDE (R92). -/
def overrideRequest (s : State) : Answer :=
  if s.receipt.mode ≠ .selfService then refuse .wrongState s
  else if !s.attendant then refuse .attendantRequired s
  else
    .reply .ok
      (.overridden (s.bag.queue.filter (·.overdue)).length s.bag.reasons (overridden s).verifier (overridden s).bag.wref)
      (overridden s)

/-- BAG_STATUS, with channel B as last offered (R93). -/
def bagReport (s : State) : BagReport where
  verifier := s.verifier
  reasons := s.bag.reasons
  wref := s.bag.wref
  holdReference := s.bag.holdReference
  lightOn := s.bag.lightOn
  nextId := s.bag.nextId
  channelState := s.bag.offered.state
  stable := s.bag.offered.stable
  nd := s.bag.offered.nd
  queue := s.bag.queue

/-! ### Lane mode, abandon and lane reset (R97 to R99) -/

/-- The change to SELF, taken with the lane mode already SELF (R97). -/
def bagEnterSelf (s : State) : State :=
  let t := s.setBag { s.bag with reasons := {}, queue := [], holdReference := none, wref := none }
  match usableNd s with
  | some nd => setReference nd t
  | none =>
    if s.chanB.state ≠ .ready ∨ overloadB s then finishHold t .modeChange (addScaleFault t) else t

/-- The change to ATTENDED (R97). -/
def bagEnterAttended (s : State) : State :=
  finishHold s .modeChange
    (s.setBag { s.bag with reasons := {}, queue := [], holdReference := none, wref := none
                           lightOn := false, lightDue := none })

/-- The Expectation Queue is emptied by an abandon (R98). -/
def bagAbandon (s : State) : State :=
  finishHold s .expectationGone (removeExpectations (fun _ => true) s)

/-- Lane reset (R99). -/
def bagLaneReset (s : State) : State :=
  let t := s.setBag { s.bag with reasons := {}, queue := [], holdReference := none, wref := none }
  let u :=
    match s.receipt.mode with
    | .attended => t
    | .selfService => if s.chanB.state ≠ .ready ∨ overloadB s then addScaleFault t else t
  finishHold s .laneReset u

/-! ### The commands -/

def execExpect (h : Header) (item : Option Nat) (weight tolerance : Option Int) (s : State) : Result :=
  .next (request h 0x01 (formed h (expectRequest item weight tolerance)) s)

/-- EXPECT_NONE is taken in every mode and changes no state (R82). -/
def execExpectNone (h : Header) (code : Nat) (s : State) : Result :=
  .next (request h 0x02 (formed h fun s => .reply .ok (.expectNone code s.now) s) s)

def execExpectCancel (h : Header) (id : Nat) (s : State) : Result :=
  .next (request h 0x03 (formed h (expectCancelRequest id)) s)

def execOverride (h : Header) (s : State) : Result :=
  .next (request h 0x04 (formed h overrideRequest) s)

/-- BAG_STATUS is taken in every mode and state and changes nothing (R93). -/
def execBagStatus (h : Header) (s : State) : Result :=
  .next (request h 0x05 (formed h fun s => .reply .ok (.bagStatus (bagReport s)) s) s)

def execPlaceTimeout (id : Nat) (s : State) : Result := .next (placeTimeout id s)

def execLightPhaseToggle (s : State) : Result := .next (toggleLight s)

end Sys2Proof.Machine
end

