-- ==== Sys2Proof/Machine/Pricing.lean ====
section
/-! DEFINITION. The Pricing Unit and the Ticket Table: the pending weighing, lock admission, the price, the ticket lifecycle and
the clear interlock (chapter 3, R40 to R59). -/

namespace Sys2Proof.Machine

/-! ### The pending weighing and its item tare (R16, R42) -/

/-- The item tare of channel P is set or removed, and the reading follows at once (R16). -/
def setItemTare (t : Option Int) (s : State) : State :=
  recompute .P (s.setChan .P { s.chanP with itemTare := t })

/-- The pending weighing ends; its item tare is removed with it (R42). -/
def endWeighing (s : State) : State := setItemTare none (s.setPricing { s.pricing with weighing := none })

/-- The weight report of channel P is considered when the item tare or the operator tare has changed from what it was `before`
(R23). -/
def considerTare (before s : State) : State :=
  if s.chanP.itemTare = before.chanP.itemTare ∧ s.chanP.operatorTare = before.chanP.operatorTare then s
  else considerReport .P s

/-- The operator tare at the cancelling of a pending weighing: a metrology change removes it, so that T becomes 0 with source NONE
(R39, R45; DEDUCED, log entry 39), and a change of lane mode leaves it (R42). -/
def tareAtCancel (reason : CancelReason) (s : State) : State :=
  match reason with
  | .metrology => s.setChan .P { s.chanP with operatorTare := 0 }
  | .modeChange => s

/-- A pending weighing is ended by a metrology or lane mode change, with its event (R42). Its item tare leaves (R16), and at a metrology
change the operator tare with it (R39). -/
def cancelWeighing (reason : CancelReason) (s : State) : State :=
  match s.pricing.weighing with
  | none => s
  | some w => considerTare s (endWeighing (tareAtCancel reason (emit (.weighingCancelled w.itemCode reason) s)))

/-- A pending weighing is opened, replacing one in force; the item tare follows it (R16, R40, R42). -/
def openWeighing (w : Weighing) (s : State) : Answer :=
  .reply .ok (.weighing s.pricing.weighing.isSome w)
    (considerTare s (setItemTare w.presetTare (s.setPricing { s.pricing with weighing := some w })))

/-- The snapshot of an Active-bank entry (R40). -/
def snapshot (s : State) (e : ItemEntry) : Weighing where
  itemCode := e.code
  price := e.price
  basis := e.basis
  description := e.description
  presetTare := e.presetTare
  autoLock := e.autoLock
  bagWeight := e.bagWeight
  bagTolerance := e.bagTolerance
  attendantOnly := e.attendantOnly
  generation := s.items.generation
  step := s.met.priceStep

/-- A preset tare meets the metrology parameters: a multiple of P_E1 in 0..P_MAX1 (R40, R61). -/
def tareFits (m : MetParams) (t : Int) : Bool := decide (0 ≤ t ∧ t % m.pE1 = 0 ∧ t ≤ m.pMax1)

/-- WEIGH_ITEM naming an item code (R40). -/
def weighItemRequest (code : Nat) (s : State) : Answer :=
  if s.chanP.state = .off ∨ s.chanP.state = .uncalibrated then refuse .wrongState s
  else
    match findEntry s.items.active code with
    | none => refuse .unknownItem s
    | some e =>
      if e.attendantOnly && s.receipt.mode != .attended && !s.attendant then refuse .attendantRequired s
      else if e.presetTare.all (tareFits s.met) then openWeighing (snapshot s e) s
      else refuse .outOfRange s

/-- WEIGH_ITEM with an inline price (R41). -/
def weighInlineRequest (price : Int) (basis : Option Basis) (description : Text) (s : State) : Answer :=
  match basis with
  | none => refuse .badRequest s
  | some basis =>
    if 24 < description.length then refuse .badRequest s
    else if ¬(0 ≤ price ∧ price ≤ 999999) then refuse .outOfRange s
    else if s.chanP.state = .off ∨ s.chanP.state = .uncalibrated then refuse .wrongState s
    else if s.receipt.mode ≠ .attended then refuse .wrongState s
    else
      openWeighing
        { itemCode := 0, price := price.toNat, basis := basis, description := description, presetTare := none
          autoLock := false, bagWeight := none, bagTolerance := none, attendantOnly := false, generation := 0
          step := s.met.priceStep } s

/-- WEIGH_CANCEL (R42). -/
def weighCancelRequest (s : State) : Answer :=
  match s.pricing.weighing with
  | none => refuse .wrongState s
  | some w => .reply .ok (.weighCancelled w.itemCode) (considerTare s (endWeighing s))

/-! ### Price and lock (R43 to R47) -/

/-- The divisor of a basis (R47). -/
def basisDiv : Basis → Nat
  | .perKg => 1000000
  | .per100g => 100000

/-- The price of a rounded net: the multiple of the step nearest to the exact price, halves up (R47). -/
def priceOf (w : Weighing) (nd : Int) : Nat :=
  let num := nd.toNat * w.price
  let d := w.step * basisDiv w.basis
  w.step * ((num + d / 2) / d)

/-- Checks 2 to 10 of a lock against the current reading, with the refusal of the first that fails (R43). -/
def judgeLock (w : Weighing) (s : State) : Except (Status × ReplyBody) (Reading × Int) :=
  if s.chanP.state ≠ .ready then .error (.wrongState, .none)
  else if s.receipt.mode ≠ .attended ∧ s.receipt.state ≠ .opened ∧ s.receipt.state ≠ .tendering then
    .error (.wrongState, .none)
  else if s.verifier = .hold then .error (.baggingHold, .none)
  else if s.pricing.clearRequired then .error (.notCleared, .none)
  else
    match s.chanP.reading with
    | none => .error (.notStable, .lockRefused none none none)
    | some r =>
      if !r.stable then .error (.notStable, .lockRefused r.nd (some r.interval) none)
      else
        match r.nd with
        | none => .error (.outOfRange, .lockRefused none (some r.interval) none)
        | some nd =>
          if nd < minOf s.met .P ∨ s.met.pMax < nd then
            .error (.outOfRange, .lockRefused (some nd) (some r.interval) none)
          else if 999999 < priceOf w nd then
            .error (.priceOverflow, .lockRefused (some nd) (some r.interval) (some (priceOf w nd)))
          else if 32 ≤ s.pricing.tickets.length then .error (.tableFull, .none)
          else if s.receipt.mode ≠ .attended ∧ 8 ≤ s.bag.queue.length then .error (.queueFull, .none)
          else .ok (r, nd)

/-- The expectation a lock posts in SELF mode (R56). -/
def lockExpectation (w : Weighing) (nd : Int) (s : State) : Option Expectation :=
  match s.receipt.mode with
  | .attended => none
  | .selfService => some (newExpectation s nd w.bagTolerance (.ticket s.pricing.nextTicket))

/-- The ticket a lock makes (R44 step 2, R45, R48). -/
def newTicket (w : Weighing) (r : Reading) (nd : Int) (s : State) : Ticket where
  number := s.pricing.nextTicket
  itemCode := w.itemCode
  description := w.description
  unitPrice := w.price
  basis := w.basis
  step := w.step
  nd := nd
  interval := r.interval
  division := if r.interval = 1 then s.met.pE1 else s.met.pE2
  tare := r.tare
  source := r.source
  price := priceOf w nd
  generation := w.generation
  lockTime := s.now
  state := .locked
  receipt := none
  voidRequested := false
  expectation := (lockExpectation w nd s).map (·.id)

/-- The ticket joins the table, its number is used up and clear-required is set (R44 steps 1, 3 and 5, R49). -/
def joinTicket (t : Ticket) (p : Pricing) : Pricing :=
  { p with
    tickets := p.tickets ++ [t]
    nextTicket := advanceId 65535 ((p.tickets ++ [t]).map (·.number)) 33 t.number
    clearRequired := true }

/-- The posting of step 4 (R44, R56). -/
def postLock (e : Option Expectation) (s : State) : State :=
  match e with
  | none => s
  | some e => postExpectation e s

/-- The effects of a lock, steps 1 to 7 (R44). -/
def makeTicket (w : Weighing) (r : Reading) (nd : Int) (s : State) : State :=
  let t := newTicket w r nd s
  emit (.scaleLocked t)
    (endWeighing (postLock (lockExpectation w nd s) (s.setPricing (joinTicket t s.pricing))))

/-- LOCK (R43, R44). -/
def lockRequest (s : State) : Answer :=
  match s.pricing.weighing with
  | none => refuse .wrongState s
  | some w =>
    match judgeLock w s with
    | .error (status, body) => .reply status body s
    | .ok (r, nd) => .reply .ok (.ticket (newTicket w r nd s)) (considerTare s (makeTicket w r nd s))

/-- The clear interlock: a READY, stable reading with Nd present and below Min resets clear-required (R55). -/
def clearInterlock (s : State) : State :=
  match s.chanP.reading with
  | some r =>
    match r.nd with
    | some nd =>
      if s.chanP.state = .ready ∧ r.stable ∧ nd < minOf s.met .P then
        s.setPricing { s.pricing with clearRequired := false }
      else s
    | none => s
  | none => s

/-- The automatic lock: one attempt at the arrival at which stable turns true (R46). -/
def autoLock (turnedStable : Bool) (s : State) : State :=
  match s.pricing.weighing with
  | some w =>
    if w.autoLock && turnedStable then
      match judgeLock w s with
      | .ok (r, nd) => makeTicket w r nd s
      | .error _ => s
    else s
  | none => s

/-- Channel P offers its reading: the clear interlock is judged, then the automatic lock (R46, R55). -/
def offerP (turnedStable : Bool) (s : State) : State := autoLock turnedStable (clearInterlock s)

/-! ### Ticket lifecycle (R50 to R54) -/

def findTicket (s : State) (number : Nat) : Option Ticket := s.pricing.tickets.find? fun t => t.number == number

/-- Replaces one ticket in place. -/
def updateTicket (number : Nat) (f : Ticket → Ticket) (s : State) : State :=
  s.setPricing { s.pricing with tickets := s.pricing.tickets.map fun t => if t.number == number then f t else t }

/-- Takes the tickets that satisfy `p` out of the table; the rest keep their order (R48). -/
def removeTickets (p : Ticket → Bool) (s : State) : State :=
  s.setPricing { s.pricing with tickets := s.pricing.tickets.filter fun t => !p t }

/-- The answer to an attach or void request, with the state it leaves (R50). -/
inductive ReferenceAnswer where
  | resolved (price : Nat) (s : State)
  | failed (reason : ReferenceFault)

/-- Attach for a WEIGHED_LINE (R50). -/
def attachTicket (number receipt : Nat) (s : State) : ReferenceAnswer :=
  match findTicket s number with
  | none => .failed .notKnown
  | some t =>
    if t.state = .locked then
      .resolved t.price (updateTicket number (fun t => { t with state := .attached, receipt := some receipt }) s)
    else .failed .duplicate

/-- Void request for a VOID_LINE (R50). -/
def requestVoid (number receipt : Nat) (s : State) : ReferenceAnswer :=
  match findTicket s number with
  | none => .failed .notKnown
  | some t =>
    if t.state = .locked ∨ t.receipt ≠ some receipt then .failed .notKnown
    else if t.voidRequested then .failed .duplicate
    else .resolved t.price (updateTicket number (fun t => { t with voidRequested := true }) s)

/-- A weighed line has finished printing: ATTACHED to PRINTED (R51). -/
def ticketPrinted (number : Nat) (s : State) : State :=
  updateTicket number (fun t => if t.state = .attached then { t with state := .printed } else t) s

/-- A void line has finished printing: PRINTED to VOIDED (R51). -/
def ticketVoided (number : Nat) (s : State) : State :=
  updateTicket number (fun t => if t.state = .printed then { t with state := .voided } else t) s

/-- A LOCKED ticket has reached REF_LIFETIME (R52). -/
def ticketDue (s : State) (t : Ticket) : Bool :=
  t.state == .locked && decide (s.params.refLifetime * 1000 ≤ age s.now t.lockTime)

/-- The expiry of one ticket: it leaves with its expectation, and TICKET_EXPIRED is emitted (R52). -/
def expireTicket (t : Ticket) (s : State) : State :=
  emit (.ticketExpired t.number t.itemCode t.nd t.price ((ticketExpectation s t).map (·.id)))
    (removeTicketExpectation t (removeTickets (fun x => x.number == t.number) s))

/-- Every ticket past REF_LIFETIME expires, in lock-time order (R52). -/
def expireTickets (s : State) : State :=
  (s.pricing.tickets.filter (ticketDue s)).foldl (fun u t => expireTicket t u) s

/-- The expiry of one ticket as an event; not due, nothing happens (R52, R83). -/
def ticketExpired (number : Nat) (s : State) : State :=
  match findTicket s number with
  | some t => if ticketDue s t then finishHold s .expectationGone (expireTicket t s) else s
  | none => s

/-- TICKET_VOID (R53). -/
def ticketVoidRequest (number : Nat) (s : State) : Answer :=
  match findTicket s number with
  | none => refuse .unknownTicket s
  | some t =>
    if t.state ≠ .locked then refuse .wrongState s
    else
      .reply .ok (.ticketVoided ((ticketExpectation s t).map (·.id)))
        (finishHold s .expectationGone
          (removeTicketExpectation t (removeTickets (fun x => x.number == number) s)))

/-- A receipt reaches CLOSED: its tickets are removed (R54). -/
def closeTickets (receipt : Option Nat) (s : State) : State :=
  removeTickets (fun t => t.receipt.isSome && t.receipt == receipt) s

/-! ### Queries (R58) -/

def ticketBrief (t : Ticket) : TicketBrief := ⟨t.number, t.state, t.receipt, t.nd, t.price⟩

/-- TICKET_QUERY (R58). -/
def ticketQueryRequest (number : Nat) (s : State) : Answer :=
  if number = 0 then
    .reply .ok (.ticketSummary (s.pricing.tickets.map ticketBrief) s.pricing.nextTicket s.pricing.clearRequired
      (s.pricing.weighing.map (·.itemCode))) s
  else
    match findTicket s number with
    | none => refuse .unknownTicket s
    | some t => .reply .ok (.ticket t) s

/-! ### The commands -/

def execWeighItem (h : Header) (code : Nat) (s : State) : Result :=
  .next (request h 0x05 (formed h (weighItemRequest code)) s)

def execWeighItemInline (h : Header) (price : Int) (basis : Option Basis) (description : Text) (s : State) : Result :=
  .next (request h 0x05 (formed h (weighInlineRequest price basis description)) s)

def execWeighCancel (h : Header) (s : State) : Result :=
  .next (request h 0x06 (formed h weighCancelRequest) s)

def execLock (h : Header) (s : State) : Result :=
  .next (request h 0x07 (formed h lockRequest) s)

def execTicketVoid (h : Header) (number : Nat) (s : State) : Result :=
  .next (request h 0x08 (formed h (ticketVoidRequest number)) s)

def execTicketQuery (h : Header) (number : Nat) (s : State) : Result :=
  .next (request h 0x09 (formed h (ticketQueryRequest number)) s)

def execTicketExpired (number : Nat) (s : State) : Result := .next (ticketExpired number s)

end Sys2Proof.Machine
end

