-- ==== Sys2Proof/Machine/Card.lean ====
section
/-! DEFINITION. The Card Port and the Slip Table: the reader receiver, arming, validation, forwarding, masking, and the life of a
slip (chapter 6, R100 to R120; section 12.9.4). -/

namespace Sys2Proof.Machine

/-- CR_EN is high in ARMED and RECEIVING (R101). -/
def State.readerEnable (s : State) : Bool := s.card.port == .armed || s.card.port == .receiving

/-- CR_TXD is held at the idle level in every state (R101); the idle level of the line is taken as high (DEDUCED, log entry 40). -/
def State.readerTransmit (_s : State) : Bool := true

/-! ### Card records (R106, section 12.9.4) -/

/-- The fields of a SWIPE or CHIP record. -/
structure CardRead where
  method : EntryMethod
  account : Text
  expiry : Text
  service : Text
  discretionary : Text
  sequence : Option Byte
  label : Text

def isDigit (b : Byte) : Bool := decide (0x30 ≤ b.toNat ∧ b.toNat ≤ 0x39)

def digitValue (b : Byte) : Nat := b.toNat - 0x30

/-- The field structure of a SWIPE payload; none where check 1 of R106 fails. -/
def parseSwipe (payload : List Byte) : Option CardRead :=
  let account := payload.takeWhile (· != 0x3D)
  match payload.drop account.length with
  | [] => none
  | _ :: rest =>
    if 7 ≤ rest.length ∧ rest.length ≤ 27 then
      some { method := .swipe, account := account, expiry := rest.take 4, service := (rest.drop 4).take 3
             discretionary := rest.drop 7, sequence := none, label := [] }
    else none

/-- The field structure of a CHIP payload; none where check 1 of R106 fails. -/
def parseChip (payload : List Byte) : Option CardRead :=
  match payload with
  | [] => none
  | n :: rest =>
    let tail := rest.drop (n.toNat + 4)
    match tail with
    | [] => none
    | sequence :: label =>
      if label.length ≤ 16 then
        some { method := .chip, account := rest.take n.toNat, expiry := (rest.drop n.toNat).take 4, service := []
               discretionary := [], sequence := some sequence, label := label }
      else none

/-- The record of a kind code: 01h SWIPE, 02h CHIP. -/
def parseCard (kind : Byte) (payload : List Byte) : Option CardRead :=
  if kind = 0x01 then parseSwipe payload else if kind = 0x02 then parseChip payload else none

/-- A digit doubled, less 9 above 9 (R106). -/
def doubled (d : Nat) : Nat := if 9 < 2 * d then 2 * d - 9 else 2 * d

/-- The total of the check digit rule over the digits from the right; `double` says whether the next is doubled (R106). -/
def checkTotal : Bool → List Nat → Nat
  | _, [] => 0
  | false, d :: l => d + checkTotal true l
  | true, d :: l => doubled d + checkTotal false l

/-- The account passes the check digit rule (R106). -/
def passesCheckDigit (account : Text) : Bool := checkTotal false (account.reverse.map digitValue) % 10 == 0

/-- Four decimal digits with month 01..12 (R106). -/
def expiryForm (expiry : Text) : Bool :=
  expiry.length == 4 && expiry.all isDigit &&
  (let month := ((expiry.drop 2).map digitValue).foldl (fun n d => 10 * n + d) 0
   decide (1 ≤ month ∧ month ≤ 12))

/-- Checks 2 and 3 of R106. -/
def lengthsFit (r : CardRead) : Bool :=
  decide (12 ≤ r.account.length ∧ r.account.length ≤ 19) && r.account.all isDigit &&
  (match r.method with
   | .swipe => r.service.all isDigit
   | .chip => match r.sequence with
     | some q => decide (q.toNat ≤ 99)
     | none => false)

/-- The reason a read fails, by the first check of R106 it fails; none for a valid read. -/
def readFault (parsed : Option CardRead) : Option ReadFailure :=
  match parsed with
  | none => some .length
  | some r =>
    if !lengthsFit r then some .length
    else if !passesCheckDigit r.account then some .checkDigit
    else if !expiryForm r.expiry then some .expiry
    else none

/-! ### Masking (R111) -/

def lastFour (account : Text) : Text := account.drop (account.length - 4)

/-- The masked number (R111). -/
def masked (account : Text) : Text :=
  if account.length ≤ 12 then List.replicate (account.length - 4) 0x2A ++ lastFour account
  else account.take 6 ++ List.replicate (account.length - 10) 0x2A ++ lastFour account

/-- The slip of a read, in HELD (R111, R112). -/
def newSlip (r : CardRead) (id : Nat) (readTime : Stamp) : Slip where
  id := id
  method := r.method
  masked := masked r.account
  lastFour := lastFour r.account
  label := if r.method = .chip then some r.label else none
  readTime := readTime
  state := .held
  receipt := none
  lineRequested := false

/-! ### Forwarding (R108) -/

/-- The port leaves its arming: DISARMED, no attempts, timer stopped, buffer wiped. -/
def disarmed (c : Card) : Card := { c with port := .disarmed, attempts := 0, armDue := none, buffer := none }

/-- A slip joins the Slip Table, and the next slip id advances past the ids held (R112). -/
def joinSlip (slip : Slip) (c : Card) : Card :=
  { c with
    slips := c.slips ++ [slip]
    nextSlip := advanceId 255 ((c.slips ++ [slip]).map (·.id)) 5 slip.id }

/-- The full read as CARD_DATA carries it (R108). -/
def cardData (r : CardRead) (readTime : Stamp) (slip : Nat) : CardData where
  method := r.method
  account := r.account
  expiry := r.expiry
  service := r.service
  discretionary := r.discretionary
  label := r.label
  sequence := r.sequence
  readTime := readTime
  slip := slip

/-- The forwarding, taken in FORWARDING with a free Alert entry; otherwise nothing happens (R108). -/
def forwardCard (s : State) : State :=
  if s.card.port = .forwarding ∧ s.link.alerts.length < 24 then
    match s.card.buffer with
    | none => s
    | some b =>
      match parseCard b.kind b.payload with
      | none => s
      | some r =>
        let readTime := b.readTime.getD s.now
        let id := s.card.nextSlip
        emit (.cardData (cardData r readTime id))
          (s.setCard (disarmed (joinSlip (newSlip r id readTime) s.card)))
  else s

/-! ### Failed and completed reads (R103, R106, R107, R110) -/

/-- A failed read (R107). -/
def failedRead (reason : ReadFailure) (s : State) : State :=
  let left := s.card.attempts - 1
  emit (.card (.readError reason left (left == 0)))
    (s.setCard
      (if left = 0 then disarmed s.card
       else { s.card with port := .armed, attempts := left, buffer := none }))

/-- A completed SWIPE or CHIP with destination STORE: validated, and forwarded or failed (R106, R108). -/
def validateRead (s : State) : State :=
  match s.card.buffer with
  | none => failedRead .length s
  | some b =>
    match readFault (parseCard b.kind b.payload) with
    | some reason => failedRead reason s
    | none =>
      forwardCard (s.setCard
        { s.card with port := .forwarding, armDue := none, buffer := some { b with readTime := some s.now } })

/-- A REMOVED or FAULT record with destination STORE leaves the port ARMED with its buffer cleared (R110). -/
def backToArmed (destination : Destination) (s : State) : State :=
  if destination = .store then s.setCard { s.card with port := .armed, buffer := none } else s

/-- A SWIPE or CHIP with destination COUNT (R103). -/
def unsolicited (method : EntryMethod) (s : State) : State :=
  emit (.card (.unsolicited method)) (latch .unsolicited s)

/-- What a well-framed record of a kind does, by its destination other than SKIP (R103, R110). -/
def judgeRecord (destination : Destination) (kind faultCode : Byte) (s : State) : State :=
  if kind = 0x01 then (if destination = .store then validateRead s else unsolicited .swipe s)
  else if kind = 0x02 then (if destination = .store then validateRead s else unsolicited .chip s)
  else if kind = 0x03 then emit (.card .removed) (backToArmed destination s)
  else if kind = 0x04 then emit (.card (.fault faultCode)) (latch .readerFault (backToArmed destination s))
  else if destination = .store then failedRead .framing s
  else s

/-- A well-framed record is complete (R103). -/
def wellFramed (s : State) : State :=
  let rx := s.card.rx
  if rx.destination = .skip then s
  else judgeRecord rx.destination rx.kind rx.faultCode (s.setCard { s.card with lastKind := some rx.kind })

/-- The record in progress ends as a framing error (R102). -/
def framingFault (s : State) : State :=
  let t := s.setCard { s.card with rx := { s.card.rx with phase := .hunt } }
  if s.card.rx.destination = .store then failedRead .framing t else t

/-! ### The receiver (R102) -/

/-- A 02h in HUNT starts a record (R102). -/
def startRecord (s : State) : State :=
  let rx : ReaderRx :=
    { phase := .kind, lastByte := s.now, destination := if s.card.port = .armed then .store else .count }
  if s.card.port = .armed then s.setCard { s.card with rx := rx, port := .receiving, buffer := none }
  else s.setCard { s.card with rx := rx }

/-- A payload byte is kept as its destination says (R102): in the record buffer with STORE; the first byte of a FAULT record as
its fault code with STORE or COUNT. -/
def keepPayload (value : Byte) (c : Card) : Card :=
  let c :=
    if c.rx.destination = .store then
      { c with buffer := c.buffer.map fun b => { b with payload := b.payload ++ [value] } }
    else c
  if c.rx.destination ≠ .skip ∧ c.rx.kind = 0x04 ∧ c.rx.taken = 0 then
    { c with rx := { c.rx with faultCode := value } }
  else c

/-- A character with a good stop bit arrives from the reader (R102). -/
def readerChar (value : Byte) (s : State) : State :=
  let rx := { s.card.rx with sum := s.card.rx.sum + value, lastByte := s.now }
  match s.card.rx.phase with
  | .hunt => if value = 0x02 then startRecord s else s
  | .kind =>
    s.setCard { s.card with
      rx := { rx with kind := value, phase := .length }
      buffer := if rx.destination = .store then some ⟨value, [], none⟩ else s.card.buffer }
  | .length =>
    if 120 < value.toNat then framingFault (s.setCard { s.card with rx := rx })
    else
      s.setCard { s.card with
        rx := { rx with length := value.toNat, taken := 0, phase := if value = 0 then .check else .payload } }
  | .payload =>
    let c := keepPayload value { s.card with rx := rx }
    s.setCard { c with
      rx := { c.rx with taken := rx.taken + 1, phase := if rx.taken + 1 = rx.length then .check else .payload } }
  | .check =>
    if rx.sum = 0 then wellFramed (s.setCard { s.card with rx := { rx with phase := .hunt } })
    else framingFault (s.setCard { s.card with rx := rx })

/-- The check byte that completes the record in progress as a well-framed record of one of the kinds `p`; where no such record
waits for its check byte, the event does not occur. -/
def completeRecord (p : Byte → Bool) (s : State) : State :=
  if s.card.rx.phase = .check ∧ p s.card.rx.kind then readerChar (-s.card.rx.sum) s else s

/-- A character ends the record in progress as a framing error, in the way its cause gives (R102). -/
def framingError (cause : RecordFault) (s : State) : State :=
  match cause with
  | .stopBitLow => if s.card.rx.phase = .hunt then s else framingFault s
  | .longLength value =>
    if s.card.rx.phase = .length ∧ 120 < value.toNat then readerChar value s else s
  | .badCheck value =>
    if s.card.rx.phase = .check ∧ s.card.rx.sum + value ≠ 0 then readerChar value s else s

/-- A record in progress has had no byte for 500 ms (R102). -/
def recordDue (s : State) : Bool :=
  s.card.rx.phase != .hunt && decide (500 ≤ age s.now s.card.rx.lastByte)

/-- The record timeout; not due, nothing happens (R102). -/
def recordTimeout (s : State) : State := if recordDue s then framingFault s else s

/-! ### Arming (R104, R105, R109) -/

/-- The bytes still to come of a record cut short are consumed and dropped (R105, R109, R120). -/
def skipRecord (c : Card) : Card := { c with rx := { c.rx with destination := .skip } }

/-- CARD_ARM (R104). -/
def cardArmRequest (s : State) : Answer :=
  if s.card.port ≠ .disarmed then refuse .busy s
  else if 4 ≤ s.card.slips.length then refuse .tableFull s
  else
    let due := after s.now (s.params.cardArmTimeout * 1000)
    .reply .ok (.cardArmed s.params.cardAttempts due)
      (s.setCard { s.card with port := .armed, attempts := s.params.cardAttempts, armDue := some due })

/-- CARD_DISARM (R109). In FORWARDING the attempts left go to 0 as in ARMED and RECEIVING, where the manual says so; of FORWARDING it
does not say (DESIGN CHOICE, log entry 45). -/
def cardDisarmRequest (s : State) : Answer :=
  .reply .ok (.cardDisarmed s.card.port)
    (match s.card.port with
     | .disarmed => s
     | .armed => s.setCard (disarmed s.card)
     | .receiving => emit (.card (.discarded .receiving)) (s.setCard (skipRecord (disarmed s.card)))
     | .forwarding => emit (.card (.discarded .forwarding)) (s.setCard (disarmed s.card)))

/-- The arm timer has expired (R105). -/
def armDue (s : State) : Bool := s.readerEnable && dueReached s.now s.card.armDue

/-- The arm timer's expiry; not due, nothing happens (R105). -/
def armTimeout (s : State) : State :=
  if armDue s then
    if s.card.port = .receiving then
      emit (.card (.armTimeout true)) (s.setCard (skipRecord (disarmed s.card)))
    else emit (.card (.armTimeout false)) (s.setCard (disarmed s.card))
  else s

/-! ### Slips (R112 to R117) -/

def findSlip (s : State) (id : Nat) : Option Slip := s.card.slips.find? fun p => p.id == id

/-- Replaces one slip in place. -/
def updateSlip (id : Nat) (f : Slip → Slip) (s : State) : State :=
  s.setCard { s.card with slips := s.card.slips.map fun p => if p.id == id then f p else p }

/-- Takes the slips that satisfy `p` out of the table; the rest keep their order (R112). -/
def removeSlips (p : Slip → Bool) (s : State) : State :=
  s.setCard { s.card with slips := s.card.slips.filter fun x => !p x }

/-- Attach for a CARD_LINE (R113). -/
def attachCardLine (id receipt : Nat) (s : State) : ReferenceAnswer :=
  match findSlip s id with
  | none => .failed .notKnown
  | some p =>
    if p.state = .held then
      .resolved 0
        (updateSlip id (fun p => { p with state := .attached, receipt := some receipt, lineRequested := true }) s)
    else if p.state = .attached ∧ !p.lineRequested then
      .resolved 0 (updateSlip id (fun p => { p with lineRequested := true }) s)
    else .failed .duplicate

/-- The slip a CARD tender may use: in the table and not PRINTED (R113). -/
def tenderableSlip (s : State) (id : Nat) : Option Slip := (findSlip s id).filter fun p => p.state != .printed

/-- Attach for a CARD tender (R113). -/
def attachTender (id receipt : Nat) (s : State) : State :=
  updateSlip id
    (fun p => if p.state = .held then { p with state := .attached, receipt := some receipt } else p) s

/-- A card line has finished printing (R114). -/
def slipPrinted (id : Nat) (s : State) : State :=
  updateSlip id (fun p => if p.state = .attached then { p with state := .printed } else p) s

/-- A receipt reaches CLOSED: its slips are removed (R115). -/
def closeSlips (receipt : Option Nat) (s : State) : State :=
  removeSlips (fun p => p.receipt.isSome && p.receipt == receipt) s

/-- SLIP_DISCARD (R116). -/
def slipDiscardRequest (id : Nat) (s : State) : Answer :=
  match findSlip s id with
  | none => refuse .unknownSlip s
  | some p =>
    if p.state ≠ .held then refuse .wrongState s
    else .reply .ok (.slipDiscarded id p.masked) (removeSlips (fun x => x.id == id) s)

/-- A HELD slip has reached REF_LIFETIME (R117). -/
def slipDue (s : State) (p : Slip) : Bool :=
  p.state == .held && decide (s.params.refLifetime * 1000 ≤ age s.now p.readTime)

/-- The expiry of one slip (R117). -/
def expireSlip (p : Slip) (s : State) : State :=
  emit (.card (.slipExpired p.id p.masked p.readTime)) (removeSlips (fun x => x.id == p.id) s)

/-- Every HELD slip past REF_LIFETIME expires, in creation order (R117). -/
def expireSlips (s : State) : State := (s.card.slips.filter (slipDue s)).foldl (fun u p => expireSlip p u) s

/-- The expiry of one slip as an event; not due, nothing happens (R117). -/
def slipExpired (id : Nat) (s : State) : State :=
  match findSlip s id with
  | some p => if slipDue s p then expireSlip p s else s
  | none => s

/-- The Card Port's part of lane reset (R120). -/
def cardLaneReset (s : State) : State :=
  s.setCard { skipRecord (disarmed s.card) with slips := [] }

/-! ### The commands -/

def execCardArm (h : Header) (s : State) : Result := .next (request h 0x01 (formed h cardArmRequest) s)

def execCardDisarm (h : Header) (s : State) : Result := .next (request h 0x02 (formed h cardDisarmRequest) s)

def execSlipDiscard (h : Header) (id : Nat) (s : State) : Result :=
  .next (request h 0x03 (formed h (slipDiscardRequest id)) s)

def execRecordStart (s : State) : Result := .next (if s.card.rx.phase = .hunt then readerChar 0x02 s else s)

def execSwipe (s : State) : Result := .next (completeRecord (· == 0x01) s)

def execChip (s : State) : Result := .next (completeRecord (· == 0x02) s)

def execRemoved (s : State) : Result := .next (completeRecord (· == 0x03) s)

def execFault (s : State) : Result := .next (completeRecord (· == 0x04) s)

def execUnknownKindRecord (s : State) : Result :=
  .next (completeRecord (fun k => !([0x01, 0x02, 0x03, 0x04] : List Byte).contains k) s)

def execReaderCharacter (value : Byte) (s : State) : Result := .next (readerChar value s)

def execFramingError (cause : RecordFault) (s : State) : Result := .next (framingError cause s)

def execRecordTimeout (s : State) : Result := .next (recordTimeout s)

def execArmTimeout (s : State) : Result := .next (armTimeout s)

def execCardForwarding (s : State) : Result := .next (forwardCard s)

def execSlipExpired (id : Nat) (s : State) : Result := .next (slipExpired id s)

end Sys2Proof.Machine
end

