-- ==== Sys2Proof/Machine/Items.lean ====
section
/-! DEFINITION. The Item Table: the two banks, the entry serialization, staged loading, the sealing check, the switch and the
table queries (chapter 4, R60 to R76; section 12.9.3). -/

namespace Sys2Proof.Machine

/-! ### Entries (R61, section 12.9.3) -/

/-- An optional weight field is absent or within its bounds. -/
def optionIn (low high : Int) : Option Int → Bool
  | none => true
  | some w => decide (low ≤ w ∧ w ≤ high)

/-- The preset tare range at load: 0..P_MAX1 and a multiple of P_E1 (R61). -/
def presetTareFits (m : MetParams) (e : ItemEntry) : Bool := e.presetTare.all (tareFits m)

/-- The first field of an entry outside its range at load (R61, R64). -/
def firstFault (m : MetParams) (e : ItemEntry) : Option EntryField :=
  if ¬(1 ≤ e.code ∧ e.code ≤ 99999) then some .code
  else if 999999 < e.price then some .price
  else if !presetTareFits m e then some .presetTare
  else if !optionIn 1 60000000 e.bagWeight then some .bagWeight
  else if !optionIn 0 60000000 e.bagTolerance then some .bagTolerance
  else if 24 < e.description.length then some .description
  else none

def basisByte : Basis → Byte
  | .perKg => 0x01
  | .per100g => 0x02

/-- The 48-byte serialization of an entry (section 12.9.3). -/
def serialize (e : ItemEntry) : List Byte :=
  bytesOf 4 e.code ++ bytesOf 4 e.price ++
  [basisByte e.basis, flagByte [e.autoLock, e.attendantOnly],
   flagByte [e.presetTare.isSome, e.bagWeight.isSome, e.bagTolerance.isSome],
   BitVec.ofNat 8 e.description.length] ++
  bytesOf 4 (e.presetTare.getD 0).toNat ++ bytesOf 4 (e.bagWeight.getD 0).toNat ++
  bytesOf 4 (e.bagTolerance.getD 0).toNat ++
  (e.description ++ List.replicate 24 0x00).take 24

/-- The entry count and the CRC-32 of a bank (R66). -/
def bankCheck (bank : List ItemEntry) : Nat × BitVec 32 := (bank.length, crc32 (bank.flatMap serialize))

/-! ### Banks (R60) -/

/-- An entry joins a bank in code order, or replaces the entry of its code in place (R60). -/
def putEntry (e : ItemEntry) : List ItemEntry → List ItemEntry
  | [] => [e]
  | x :: bank =>
    if e.code < x.code then e :: x :: bank
    else if e.code = x.code then e :: bank
    else x :: putEntry e bank

/-- Takes the entries one after another (R64). -/
def putEntries (entries bank : List ItemEntry) : List ItemEntry := entries.foldl (fun b e => putEntry e b) bank

/-- The position (from 1) and first failing field of the first entry that fails a check (R64). -/
def firstBadEntry (m : MetParams) : Nat → List ItemEntry → Option (Nat × EntryField)
  | _, [] => none
  | n, e :: l =>
    match firstFault m e with
    | some field => some (n, field)
    | none => firstBadEntry m (n + 1) l

/-! ### The switch (R68, R69) -/

/-- The generation after one switch: from 65,535 to 1 (R69). -/
def nextGeneration (g : Nat) : Nat := advanceOnce 65535 g

/-- The sealed check; it is present whenever a switch is made (section 4.1). -/
def sealedCheck (i : Items) : Nat × BitVec 32 := i.check.getD (bankCheck i.standby)

/-- The item table after a switch (R69). -/
def switched (i : Items) : Items :=
  { active := i.standby, generation := nextGeneration i.generation, standby := [], state := .empty, check := none }

/-- The switch, with its event (R69). -/
def switchBanks (s : State) : State :=
  emit (.lane (.tableSwitched (nextGeneration s.items.generation) (sealedCheck s.items).1 (sealedCheck s.items).2))
    (s.setItems (switched s.items))

/-- The receipt context reports that it has reached CLOSED: a pending commit is made (R68). -/
def makePendingSwitch (s : State) : State := if s.items.state = .commitPending then switchBanks s else s

/-! ### Staging requests (R62 to R70) -/

/-- STAGE_BEGIN (R63). -/
def stageBeginRequest (mode : Option StageMode) (s : State) : Answer :=
  match mode with
  | none => refuse .badRequest s
  | some mode =>
    if s.items.state = .commitPending then refuse .wrongState s
    else
      let standby :=
        match mode with
        | .clear => []
        | .copy => s.items.active
      .reply .ok (.stageBegun standby.length s.items.generation)
        (s.setItems { s.items with standby := standby, state := .staging, check := none })

/-- STAGE_ENTRIES (R64). -/
def stageEntriesRequest (entries : List ItemEntry) (s : State) : Answer :=
  if ¬(1 ≤ entries.length ∧ entries.length ≤ 16) then refuse .badRequest s
  else if s.items.state ≠ .staging then refuse .wrongState s
  else
    match firstBadEntry s.met 1 entries with
    | some (position, field) => .reply .outOfRange (.entryFault position field) s
    | none =>
      let bank := putEntries entries s.items.standby
      if 4096 < bank.length then .reply .tableFull (.entryCount s.items.standby.length) s
      else
        .reply .ok
          (.staged (bank.length - s.items.standby.length) (entries.length - (bank.length - s.items.standby.length))
            bank.length)
          (s.setItems { s.items with standby := bank })

/-- STAGE_DELETE (R65). -/
def stageDeleteRequest (codes : List Nat) (s : State) : Answer :=
  if ¬(1 ≤ codes.length ∧ codes.length ≤ 16) then refuse .badRequest s
  else if s.items.state ≠ .staging then refuse .wrongState s
  else
    let bank := s.items.standby.filter fun e => !codes.contains e.code
    .reply .ok (.deleted (s.items.standby.length - bank.length) bank.length)
      (s.setItems { s.items with standby := bank })

/-- STAGE_SEAL (R66). -/
def stageSealRequest (count : Nat) (crc : BitVec 32) (s : State) : Answer :=
  if s.items.state ≠ .staging then refuse .wrongState s
  else if bankCheck s.items.standby = (count, crc) then
    .reply .ok .none (s.setItems { s.items with state := .sealed, check := some (count, crc) })
  else .reply .checkMismatch (.computedCheck (bankCheck s.items.standby).1 (bankCheck s.items.standby).2) s

/-- STAGE_COMMIT (R67). -/
def stageCommitRequest (s : State) : Answer :=
  if s.items.state ≠ .sealed then refuse .wrongState s
  else if s.receipt.state = .closed then
    .reply .ok
      (.switched (nextGeneration s.items.generation) (sealedCheck s.items).1 (sealedCheck s.items).2) (switchBanks s)
  else
    .reply .ok (.deferred s.receipt.number (sealedCheck s.items).1 (sealedCheck s.items).2)
      (s.setItems { s.items with state := .commitPending })

/-- The Standby bank emptied (R70, R75). -/
def emptyStandby (i : Items) : Items := { i with standby := [], state := .empty, check := none }

/-- STAGE_ABANDON, taken in every standby state (R70). -/
def stageAbandonRequest (s : State) : Answer :=
  .reply .ok (.stageAbandoned s.items.state) (s.setItems (emptyStandby s.items))

/-- The Item Table's part of lane reset, with the receipt taken to CLOSED (R75). -/
def itemsLaneReset (s : State) : State :=
  match s.items.state with
  | .empty | .sealed => s
  | .staging => s.setItems (emptyStandby s.items)
  | .commitPending => switchBanks s

/-! ### Queries (R72, R73) -/

/-- TABLE_QUERY (R72, R73). -/
def tableQueryRequest (code : Nat) (s : State) : Answer :=
  if code = 0 then
    .reply .ok
      (.tableSummary s.items.generation s.items.active.length s.items.state s.items.standby.length s.items.check
        (if s.items.state = .commitPending then s.receipt.number else none)) s
  else
    match findEntry s.items.active code with
    | some e => .reply .ok (.tableEntry e s.items.generation) s
    | none => .reply .unknownItem (.tableMiss s.items.generation) s

/-! ### The commands -/

def execStageBegin (h : Header) (mode : Option StageMode) (s : State) : Result :=
  .next (request h 0x06 (formed h (stageBeginRequest mode)) s)

def execStageEntries (h : Header) (entries : List ItemEntry) (s : State) : Result :=
  .next (request h 0x07 (formed h (stageEntriesRequest entries)) s)

def execStageDelete (h : Header) (codes : List Nat) (s : State) : Result :=
  .next (request h 0x08 (formed h (stageDeleteRequest codes)) s)

def execStageSeal (h : Header) (count : Nat) (crc : BitVec 32) (s : State) : Result :=
  .next (request h 0x09 (formed h (stageSealRequest count crc)) s)

def execStageCommit (h : Header) (s : State) : Result :=
  .next (request h 0x0A (formed h stageCommitRequest) s)

def execStageAbandon (h : Header) (s : State) : Result :=
  .next (request h 0x0B (formed h stageAbandonRequest) s)

def execTableQuery (h : Header) (code : Nat) (s : State) : Result :=
  .next (request h 0x0C (formed h (tableQueryRequest code)) s)

end Sys2Proof.Machine
end

