-- ==== Sys2Proof/Machine/Composer.lean ====
section
/-! DEFINITION. The Print Composer: rendering, composition into the Line Queue, and what the receipt context does when a marker's
cut completes (chapter 8, R138 to R147; R129, R131, R132). -/

namespace Sys2Proof.Machine

/-! ### Glyphs and lines (R143) -/

/-- A code outside 20h..7Eh is drawn as "?" (R143). -/
def glyphCode (code : Byte) : Byte := if 0x20 ≤ code.toNat ∧ code.toNat ≤ 0x7E then code else 0x3F

/-- Whether a code has a black dot at a place of its cell; the space has none (R143). -/
def glyphDot (code : Byte) (row col : Nat) : Bool :=
  if code = 0x20 then false else Config.fontDot (glyphCode code) row col

/-- The 12 dots of one cell in one glyph row; bit 0 is the leftmost dot. -/
def cellBits (code : Byte) (row : Nat) : Nat :=
  (List.range 12).foldl (fun n col => if glyphDot code row col then n + 2 ^ col else n) 0

/-- One dot row of a line; bit k of the row is dot k, and character position p occupies dots 12p to 12p + 11 (R143). -/
def lineRow (row : Nat) : List Byte → Nat
  | [] => 0
  | code :: line => cellBits code row + 2 ^ 12 * lineRow row line

/-- The 24 dot rows of a line of at most 48 characters (R143). -/
def renderLine (line : Text) : List DotRow :=
  (List.range 24).map fun row => BitVec.ofNat 576 (lineRow row (line.take 48))

/-- CENTERED puts floor((48 − L) / 2) spaces in front (R143). -/
def centeredLine (line : Text) : Text := List.replicate ((48 - line.length) / 2) 0x20 ++ line

/-- The rows of a TEXT_LINE (R143). -/
def renderText (line : Text) (doubleHeight centered : Bool) : List DotRow :=
  let rows := renderLine (if centered then centeredLine line else line)
  if doubleHeight then rows.flatMap fun r => [r, r] else rows

/-! ### Amounts and weights as text (R143) -/

def ascii (t : String) : Text := t.toList.map fun c => BitVec.ofNat 8 c.toNat

/-- The last `n` decimal digits of a number. -/
def fixedDigits (n v : Nat) : Text :=
  (List.range n).map fun i => BitVec.ofNat 8 (0x30 + v / 10 ^ (n - 1 - i) % 10)

/-- How many decimal digits a number has; `fuel` bounds them. -/
def digitCount : Nat → Nat → Nat
  | 0, _ => 1
  | fuel + 1, v => if v < 10 then 1 else digitCount fuel (v / 10) + 1

/-- A number in decimal without leading zeros. -/
def decimal (v : Nat) : Text := fixedDigits (digitCount 40 v) v

/-- A money amount: 271 is 2.71 (R143). -/
def moneyText (a : Nat) : Text := decimal (a / 100) ++ [0x2E] ++ fixedDigits 2 (a % 100)

/-- A weight in kilograms with three decimals: 1,236,000 mg is 1.236 (R143). -/
def kgText (w : Nat) : Text := decimal (w / 1000000) ++ [0x2E] ++ fixedDigits 3 (w / 1000 % 1000)

/-- A left text and a right text whose last character stands at position 47. -/
def spreadLine (left right : Text) : Text :=
  left ++ List.replicate (48 - left.length - right.length) 0x20 ++ right

/-! ### Composed lines (R144, R145, R146) -/

def weighedFirst (t : Ticket) : Text := spreadLine t.description (moneyText t.price)

def basisText : Basis → Text
  | .perKg => ascii "/kg"
  | .per100g => ascii "/100g"

def weighedSecond (t : Ticket) : Text :=
  ascii "  " ++ kgText t.nd.toNat ++ ascii " kg" ++
  (if t.tare = 0 then [] else ascii "  T " ++ kgText t.tare.toNat ++ ascii " kg") ++
  ascii "  @ " ++ moneyText t.unitPrice ++ basisText t.basis ++
  (if t.interval = 2 then ascii "  N" else [])

def voidText (t : Ticket) : Text :=
  spreadLine (ascii "VOID " ++ t.description) ([0x2D] ++ moneyText t.price)

def cardText (p : Slip) : Text :=
  ascii "CARD " ++ p.masked ++ [0x20] ++
  (match p.method with
   | .swipe => ascii "SWIPE"
   | .chip => ascii "CHIP")

def abandonText (receipt : Nat) : Text :=
  ascii "RECEIPT " ++ fixedDigits 6 receipt ++ ascii " ABANDONED"

/-- A single-height line from position 0. -/
def textEntry (line : Text) (tag : Option Nat) (notice : Option Notice) : LineEntry :=
  ⟨.text (renderLine line), tag, notice⟩

/-- The application label that makes a second card run: present with at least one character (R145). -/
def slipLabel (p : Slip) : Option Text := p.label.filter fun l => !l.isEmpty

/-- The Line Queue entries of a record (R142 to R146). A ticket or slip is in its table when its record is taken (R139). -/
def recordEntries (s : State) (tag : Option Nat) : PrintContent → List LineEntry
  | .text line doubleHeight centered => [⟨.text (renderText line doubleHeight centered), tag, none⟩]
  | .weighed n =>
    match findTicket s n with
    | none => []
    | some t =>
      [textEntry (weighedFirst t) tag none, textEntry (weighedSecond t) tag (some (.ticketPrinted n))]
  | .void n =>
    match findTicket s n with
    | none => []
    | some t => [textEntry (voidText t) tag (some (.ticketVoided n))]
  | .card id =>
    match findSlip s id with
    | none => []
    | some p =>
      match slipLabel p with
      | none => [textEntry (cardText p) tag (some (.slipPrinted id))]
      | some label => [textEntry (cardText p) tag none, textEntry label tag (some (.slipPrinted id))]
  | .feed rows => [⟨.feed rows, tag, none⟩]
  | .cut kind => [⟨.cutMark kind, tag, none⟩]

/-- The Line Queue entries of a marker (R146). -/
def markerEntries (m : Marker) : List LineEntry :=
  let cut : LineEntry := ⟨.cutMark m.cut, some m.receipt, some (.markerCut m.kind m.receipt)⟩
  match m.kind with
  | .close => [cut]
  | .abandon => [textEntry (abandonText m.receipt) (some m.receipt) none, cut]

/-- The entries an item produces. -/
def itemEntries (s : State) : QueueItem → List LineEntry
  | .record content tag => recordEntries s tag content
  | .marker m => markerEntries m

/-- How many entries an item produces (R142). -/
def entryCount (s : State) (i : QueueItem) : Nat := (itemEntries s i).length

/-! ### Queues and credits (R138, R141, R142) -/

def QueueItem.isRecord : QueueItem → Bool
  | .record _ _ => true
  | .marker _ => false

/-- The records in the Print Queue; a marker does not count (R137). -/
def recordCount (c : Composer) : Nat := (c.queue.filter (·.isRecord)).length

/-- The marker in the reserved cell (R138). -/
def reservedCell (c : Composer) : Option Marker :=
  c.queue.findSome? fun i =>
    match i with
    | .marker m => some m
    | .record _ _ => none

/-- Credits are added to the credits owed (R141). -/
def addCredits (n : Nat) (s : State) : State :=
  s.setComposer { s.composer with owed := s.composer.owed + n }

/-- The credit an item returns when it is taken or flushed: a record one, a marker none (R141). -/
def itemCredit (i : QueueItem) : Nat := if i.isRecord then 1 else 0

/-- The composer takes the oldest item when the Line Queue has room for all it produces (R142). -/
def composeOne (s : State) : State :=
  match s.composer.queue with
  | [] => s
  | i :: rest =>
    if s.composer.lines.length + entryCount s i ≤ 8 then
      s.setComposer
        { queue := rest, lines := s.composer.lines ++ itemEntries s i, owed := s.composer.owed + itemCredit i }
    else s

/-- An attempt: items are taken, oldest first, for as long as the oldest fits (R142). -/
def composeAll (s : State) : State := Nat.repeat composeOne s.composer.queue.length s

/-- An item joins the Print Queue at its newest end (R138). -/
def joinQueue (i : QueueItem) (s : State) : State :=
  s.setComposer { s.composer with queue := s.composer.queue ++ [i] }

/-! ### The end of a receipt (R129, R131, R132) -/

/-- The sum of the tender amounts (R132). -/
def tenderSum (r : Receipt) : Nat := (r.tenders.map (·.amount)).sum

/-- RECEIPT_DONE of the receipt as it stands before the ending (R132). -/
def receiptReport (r : Receipt) (ending : Ending) (now : Stamp) : ReceiptReport where
  number := r.number
  ending := ending
  openedTime := r.openedTime
  endTime := now
  subtotal := r.subtotal
  tickets := r.tickets.length
  slips := r.slips.length
  tenders := r.tenders.length
  tenderSum := tenderSum r
  mode := r.mode

/-- The lists emptied and the weighed subtotal 0 (R129, R130). -/
def emptyLists (r : Receipt) : Receipt := { r with tickets := [], slips := [], tenders := [], subtotal := 0 }

/-- Close completion (R129). -/
def closeCompletion (s : State) : State :=
  let ended := s.setReceipt { s.receipt with state := .closed, marker := none }
  let removed := closeSlips s.receipt.number (closeTickets s.receipt.number ended)
  let told := emit (.receiptDone (receiptReport s.receipt .closed s.now)) removed
  makePendingSwitch (told.setReceipt (emptyLists told.receipt))

/-- The report of a completed marker cut (R129, R131); a report that names no such receipt is dropped. -/
def markerCut (kind : MarkerKind) (receipt : Nat) (s : State) : State :=
  match kind with
  | .close =>
    if s.receipt.state = .closing ∧ s.receipt.number = some receipt then closeCompletion s else s
  | .abandon =>
    match s.receipt.marker with
    | some m =>
      if m.kind = .abandon ∧ m.receipt = receipt then s.setReceipt { s.receipt with marker := none } else s
    | none => s

/-- A completion notice is passed to its owner (R147). -/
def passNotice (n : Option Notice) (s : State) : State :=
  match n with
  | none => s
  | some (.ticketPrinted number) => ticketPrinted number s
  | some (.ticketVoided number) => ticketVoided number s
  | some (.slipPrinted id) => slipPrinted id s
  | some (.markerCut kind receipt) => markerCut kind receipt s

end Sys2Proof.Machine
end

