-- ==== Sys2Proof/Machine/Rail.lean ====
section
/-! DEFINITION. The Drive Rail Arbiter's claims and capacity, and the two pulse generators (chapter 10, R171 to R182). What a
claimant does at its grant is in Machine/Mechanism.lean. -/

namespace Sys2Proof.Machine

/-! ### Claims and capacity (section 10.1, R173, R174) -/

/-- The claim record of a claimant. -/
def Rail.claim (r : Rail) : Claimant → Claim
  | .drawer => r.drawer
  | .cutter => r.cutter
  | .stepper => r.stepper
  | .head => r.head

def Rail.setClaim (r : Rail) (who : Claimant) (c : Claim) : Rail :=
  match who with
  | .drawer => { r with drawer := c }
  | .cutter => { r with cutter := c }
  | .stepper => { r with stepper := c }
  | .head => { r with head := c }

/-- The units a claim adds to the granted sum. -/
def grantedUnits (c : Claim) : Nat := if c.phase = .granted then c.units else 0

/-- The granted sum (section 10.1). -/
def Rail.granted (r : Rail) : Nat :=
  grantedUnits r.drawer + grantedUnits r.cutter + grantedUnits r.stepper + grantedUnits r.head

/-- Ceff of a capacity: half of it, rounded down, while Rail Low (section 10.1). -/
def ceffOf (capacity : Nat) (low : Bool) : Nat := if low then capacity / 2 else capacity

/-- The effective capacity in force. -/
def State.ceff (s : State) : Nat := ceffOf s.params.railCapacity s.rail.low

/-- The first waiting claim in priority order (R174). -/
def firstWaiting (r : Rail) : Option Claimant :=
  [Claimant.drawer, .cutter, .stepper, .head].find? fun who => (r.claim who).phase == .waiting

/-- A claim is made while the claimant's record is NONE, and waits; otherwise it is ignored (R173). -/
def makeClaim (who : Claimant) (units : Nat) (s : State) : State :=
  if (s.rail.claim who).phase = .none then s.setRail (s.rail.setClaim who ⟨.waiting, units, s.now⟩) else s

/-- A claim is released or withdrawn; a record that is NONE stays so (R173). -/
def dropClaim (who : Claimant) (s : State) : State := s.setRail (s.rail.setClaim who {})

/-- The first waiting claim, when it fits within Ceff beside the granted sum (R174). -/
def grantable (s : State) : Option Claimant :=
  match firstWaiting s.rail with
  | none => none
  | some who => if s.rail.granted + (s.rail.claim who).units ≤ s.ceff then some who else none

/-- A waiting claim becomes GRANTED (R173). -/
def grantClaim (who : Claimant) (s : State) : State :=
  s.setRail (s.rail.setClaim who { s.rail.claim who with phase := .granted })

/-- The three cross constraints of R176. -/
def crossFits (capacity drawer cutter stepper dotCurrent : Nat) : Bool :=
  decide (drawer + stepper ≤ capacity / 2 ∧ cutter + stepper ≤ capacity / 2 ∧
    8 ≤ (capacity / 2 - stepper) * 50 / dotCurrent)

/-- RAIL_STATE (R177). -/
def railReport (s : State) : RailReport where
  voltage := s.rail.voltage
  low := s.rail.low
  ceff := s.ceff
  capacity := s.params.railCapacity
  granted := s.rail.granted
  drawer := s.rail.drawer
  cutter := s.rail.cutter
  stepper := s.rail.stepper
  head := s.rail.head

/-! ### Pulse generators (R178 to R181) -/

/-- A running wait or pulse has expired. -/
def genDue {w : Nat} (g : PulseGen w) (now : BitVec w) : Bool :=
  match g.due with
  | some due => decide ((now - due).toNat < 2 ^ (w - 1))
  | none => false

/-- Settings are written: current in IDLE, next-trigger otherwise (R179). A write in IDLE leaves next-trigger settings kept through a
forced stop as they are, and the next trigger takes those (R178, R180; log entry 8). -/
def writeGen {w : Nat} (wait pulse : Nat) (g : PulseGen w) : PulseGen w :=
  if g.phase = .idle then { g with wait := wait, pulse := pulse }
  else { g with next := some (wait, pulse) }

/-- The pulse time starts (R178). -/
def startPulse {w : Nat} (now : BitVec w) (g : PulseGen w) : PulseGen w :=
  { g with phase := .pulsing, due := some (now + BitVec.ofNat w g.pulse) }

/-- The next-trigger settings become current (R178). -/
def takeNext {w : Nat} (g : PulseGen w) : PulseGen w :=
  match g.next with
  | none => g
  | some (wait, pulse) => { g with wait := wait, pulse := pulse, next := none }

/-- A trigger; ignored outside IDLE (R178). -/
def triggerGen {w : Nat} (now : BitVec w) (g : PulseGen w) : PulseGen w :=
  if g.phase = .idle then
    let h := takeNext g
    if h.wait = 0 then startPulse now h
    else { h with phase := .waiting, due := some (now + BitVec.ofNat w h.wait) }
  else g

/-- The wait or pulse ends: IDLE with the output inactive; the settings are kept (R178, R180). -/
def restGen {w : Nat} (g : PulseGen w) : PulseGen w := { g with phase := .idle, due := none }

/-- DR_SOL takes the polarity in force whenever PG-D is IDLE; a change taken during a wait or pulse is held until then (R181). -/
def applyPolarity (s : State) : State :=
  if s.pgD.phase = .idle then s.setDrawer { s.drawer with polarity := s.params.drawerPolarity } else s

/-- PG-D returns to IDLE, by pulse end or forced stop (R178, R180, R181). -/
def restPgD (s : State) : State := applyPolarity (s.setPgD (restGen s.pgD))

/-- The level on DR_SOL (R181). -/
def State.solenoidLevel (s : State) : Bool :=
  match s.drawer.polarity with
  | .activeHigh => s.pgD.phase == .pulsing
  | .activeLow => s.pgD.phase != .pulsing

/-- The level on PH_STROBE (R181). -/
def State.strobeLevel (s : State) : Bool := s.pgH.phase == .pulsing

end Sys2Proof.Machine
end

