-- ==== Sys2Proof/Machine/Mechanism.lean ====
section
/-! DEFINITION. The Print Mechanism and the grants of the Drive Rail Arbiter: the stepper hold, rows and groups, steps, stops,
cuts, the head temperature, and what each claimant does at its grant (chapter 9, R151 to R170; R173, R174, R186). Whatever the
manual says happens "in the event" or "at once" happens within the command that causes it: every command that touches the print
path ends with `settle`. -/

namespace Sys2Proof.Machine

/-! ### The head entry (R152) -/

def State.headEntry (s : State) : Option LineEntry := s.composer.lines.head?

def entryKind (e : LineEntry) : EntryKind :=
  match e.run with
  | .text _ => .textRun
  | .feed _ => .feedRun
  | .cutMark _ => .cutMark

/-- Rows of a run; a cut mark has none. DESIGN CHOICE (log entry 53): PRINT_STATUS shows the length in rows of a cut mark at the head as
0. -/
def entryRows (e : LineEntry) : Nat :=
  match e.run with
  | .text rows => rows.length
  | .feed n => n
  | .cutMark _ => 0

/-- The print state for a head entry, by its kind (R152, R159). -/
def stateFor (e : LineEntry) (overheat : Bool) : PrintState :=
  match e.run with
  | .text _ => if overheat then .waitHot else .running
  | .feed _ => .running
  | .cutMark _ => .cutting

/-- The print state is chosen for the entry at the head; an empty Line Queue gives IDLE (R152, R164). -/
def chooseState (s : State) : State :=
  match s.headEntry with
  | none => s.setMech { s.mech with state := .idle }
  | some e => s.setMech { s.mech with state := stateFor e s.mech.overheat }

/-! ### Stops (R161) -/

def stopCondition : StopSensor → Condition
  | .paperOut => .paperOut
  | .coverOpen => .coverOpen

/-- The condition of a sensor stop is latched and its event emitted, with the head entry's kind, its rows done and the Line Queue
occupancy (R161). DESIGN CHOICE (log entry 51): with the Line Queue empty the event carries an absent kind and the rows done as they stand,
which is 0. -/
def reportStop (sensor : StopSensor) (s : State) : State :=
  emit (.print (.stopped sensor (s.headEntry.map entryKind) s.mech.done s.composer.lines.length))
    (latch (stopCondition sensor) s)

/-- A pending stop is reported when it is entered; one of a first settling tells nothing more (R161, R169). -/
def reportPending (p : PendingStop) (s : State) : State := if p.silent then s else reportStop p.sensor s

/-- STOPPED is entered for the pending stop; a second sensor that waits with it is reported too (R161, R169). -/
def enterStopped (s : State) : State :=
  match s.mech.stops with
  | [] => s
  | p :: _ =>
    s.mech.stops.foldl (fun t x => reportPending x t)
      (s.setMech { s.mech with state := .stopped, reason := some (.sensor p.sensor), stops := [] })

/-! ### The stepper hold (R153) -/

/-- An entry has become the head, or joined an empty Line Queue: the hold is claimed, or a lingering hold is kept (R153). -/
def takeHold (s : State) : State :=
  match s.mech.hold with
  | .released =>
    makeClaim .stepper s.params.stepperUnits
      (s.setMech { s.mech with hold := .claiming, stepperUnits := some s.params.stepperUnits })
  | .lingering => s.setMech { s.mech with hold := .held, lingerDue := none }
  | .claiming | .held => s

/-- The hold is given up at once: the claim withdrawn or released (R153). -/
def releaseHold (s : State) : State :=
  dropClaim .stepper (s.setMech { s.mech with hold := .released, stepperUnits := none, lingerDue := none })

/-- The Line Queue has become empty (R153). -/
def emptyHold (s : State) : State :=
  match s.mech.hold with
  | .held => s.setMech { s.mech with hold := .lingering, lingerDue := some (after s.now 50) }
  | .claiming => releaseHold s
  | .released | .lingering => s

/-! ### Rows and groups (R154, R155, R156) -/

/-- The stepper units held, S (R153). -/
def heldUnits (s : State) : Nat := s.mech.stepperUnits.getD 0

/-- The group size Gd at the present Ceff (R154). -/
def groupSize (s : State) : Nat :=
  min ((s.ceff - heldUnits s) * 50 / s.params.dotCurrent / 8 * 8) s.params.strobeDots

/-- The black dots of a dot row, from dot 0 to dot 575 (R154). -/
def blackDots (row : DotRow) : List Nat := (List.range 576).filter fun k => row.getLsbD k

/-- The head claim of a group: ceil(dots × DOT_CURRENT / 50) (R154). -/
def groupUnits (dotCurrent : Nat) (group : List Nat) : Nat := (group.length * dotCurrent + 49) / 50

/-- The dots split into groups of the present Gd (R154). -/
def splitGroups (s : State) (dots : List Nat) : List (List Nat) := chunks (groupSize s) dots.length dots

/-- The group of a row in hand. -/
def groupInHand (r : RowWork) : List Nat := r.groups.getD r.index []

/-- The group in hand and the later ones split again at the present Ceff when its claim exceeds Ceff − S (R156). -/
def regroup (s : State) (r : RowWork) : RowWork :=
  if s.ceff - heldUnits s < groupUnits r.dotCurrent (groupInHand r) then
    { r with
      groups := r.groups.take r.index ++ splitGroups s (r.groups.drop r.index).flatten
      dotCurrent := s.params.dotCurrent }
  else r

/-- The head claim of the group in hand is made (R155, R156). -/
def claimGroup (r : RowWork) (s : State) : State :=
  let r := { regroup s r with phase := RowPhase.claiming }
  makeClaim .head (groupUnits r.dotCurrent (groupInHand r)) (s.setMech { s.mech with row := some r })

/-- A row begins with the groups of its black dots; a row with none goes straight to its step (R154, R157). -/
def beginRow (dots : List Nat) (s : State) : State :=
  let r : RowWork := { groups := splitGroups s dots, index := 0, phase := .reached, dotCurrent := s.params.dotCurrent }
  if r.groups.isEmpty then s.setMech { s.mech with row := some r } else claimGroup r s

/-- The dots of the next row of an entry; a feed row has none (R157). -/
def nextRowDots (e : LineEntry) (done : Nat) : List Nat :=
  match e.run with
  | .text rows => blackDots (rows.getD done 0)
  | .feed _ | .cutMark _ => []

/-- Work on the head entry starts with the motor hold HELD and nothing in progress: the next row begins, or WAIT_HOT or STOPPED
is entered instead, or the cutter claim is made (R152, R154, R159, R163). -/
def startWork (s : State) : State :=
  match s.headEntry with
  | none => s
  | some e =>
    if s.mech.hold = .held ∧ s.mech.row = none then
      match s.mech.state with
      | .running =>
        if s.mech.stops ≠ [] then enterStopped s
        else if entryKind e = .textRun ∧ s.mech.overheat then s.setMech { s.mech with state := .waitHot }
        else beginRow (nextRowDots e s.mech.done) s
      | .cutting => makeClaim .cutter s.params.cutterUnits s
      | .idle | .waitHot | .stopped => s
    else s

/-! ### The end of an entry (R147, R152) -/

/-- An entry has left and the composer has made its attempt: a pending stop is entered, the next entry becomes the head, or the
mechanism goes IDLE and the hold follows (R152, R153, R161, R163, R165). -/
def nextHead (s : State) : State :=
  match s.headEntry with
  | none =>
    let t := emptyHold s
    if t.mech.stops ≠ [] then enterStopped t
    else if t.mech.state = .stopped then t
    else t.setMech { t.mech with state := .idle }
  | some _ =>
    let t := takeHold s
    if t.mech.stops ≠ [] then enterStopped t
    else if t.mech.state = .stopped then t
    else startWork (chooseState t)

/-- The oldest entry is taken out of the Line Queue and the row progress becomes absent. -/
def dropHead (s : State) : State :=
  (s.setComposer { s.composer with lines := s.composer.lines.tail }).setMech
    { s.mech with done := 0, row := none, flushed := false }

/-- The head entry leaves, with its notice passed when it is finished, and the composer makes an attempt (R147, R152). -/
def leaveHead (finished : Bool) (s : State) : State :=
  let notice := if finished then s.headEntry.bind (·.notice) else none
  nextHead (composeAll (passNotice notice (dropHead s)))

/-- The composer makes an attempt outside an entry's leaving; entries that join an empty Line Queue have a head to choose
(R142, R152, R153). -/
def composeAttempt (s : State) : State :=
  if s.composer.lines.isEmpty then
    let t := composeAll s
    if t.composer.lines.isEmpty then t else nextHead t
  else composeAll s

/-! ### Stepping (R157) -/

/-- STEP_PERIOD has passed since the last step, or there was none, with the motor hold HELD (R157). -/
def stepReady (s : State) : Bool :=
  s.mech.hold == .held &&
  (match s.mech.lastStep with
   | none => true
   | some t => decide (s.params.stepPeriod ≤ (s.clock - t).toNat))

/-- The paper steps one row, which ends the row (R157, R165). A stop that is pending is entered with the entry still at the head (log
entry 20). DESIGN CHOICE (log entry 52): a flushed entry leaves, and the composer makes its attempt, before a pending stop is entered, so
the event of that stop describes the entry that is then at the head, with 0 rows done. -/
def stepPaper (s : State) : State :=
  let t := s.setMech { s.mech with lastStep := some s.clock, done := s.mech.done + 1, row := none }
  if s.mech.flushed then leaveHead false t
  else if s.mech.stops ≠ [] then enterStopped t
  else
    match t.headEntry with
    | none => t
    | some e => if t.mech.done < entryRows e then startWork t else leaveHead true t

/-- The phase of the row in progress. -/
def rowPhase (s : State) : Option RowPhase := s.mech.row.map (·.phase)

/-- The row's phase is replaced. -/
def setRowPhase (p : RowPhase) (s : State) : State :=
  s.setMech { s.mech with row := s.mech.row.map fun r => { r with phase := p } }

/-- A row that reaches its step in this event is stepped at once when both conditions hold, and otherwise waits for the later of
them; a row begun by that step waits, since STEP_PERIOD has not passed (R157). -/
def stepReached (s : State) : State :=
  if rowPhase s = some .reached then
    if stepReady s then
      let t := stepPaper s
      if rowPhase t = some .reached then setRowPhase .awaiting t else t
    else setRowPhase .awaiting s
  else s

/-! ### Grants (R173, R174) -/

/-- The band's heat time (R158). -/
def heatTime (p : Params) : Band → Nat
  | .b1 => p.heatTime1
  | .b2 => p.heatTime2
  | .b3 => p.heatTime3
  | .b4 => p.heatTime4
  | .b5 | .over65 => p.heatTime5

/-- At the head's grant the group is loaded and PG-H written and triggered (R155, R179). -/
def fireGroup (s : State) : State :=
  match s.mech.row with
  | none => s
  | some r =>
    (s.setMech { s.mech with headDots := groupInHand r, row := some { r with phase := .firing } }).setPgH
      (triggerGen s.clock (writeGen s.params.headSettle (heatTime s.params s.mech.band) s.pgH))

/-- At the drawer's grant PG-D is triggered (R186). DESIGN CHOICE (log entry 54): its wait and pulse are whole milliseconds of the lane
clock from here on (section 5.1, R178), not 1,000 times as many microseconds as the example of section 10.8 counts them. -/
def fireDrawer (s : State) : State :=
  let g := triggerGen s.now s.pgD
  (s.setPgD g).setDrawer { s.drawer with state := if g.phase = .pulsing then .pulsing else .pulseWait }

/-- What a claimant does in the event of its grant (R173). -/
def actOnGrant (who : Claimant) (s : State) : State :=
  match who with
  | .drawer => fireDrawer s
  | .cutter => s.setMech { s.mech with jamDue := some (after s.now 800) }
  | .stepper => startWork (s.setMech { s.mech with hold := .held })
  | .head => fireGroup s

/-- One judgment of a re-examination: the first waiting claim is granted if it fits, and its claimant acts (R174). -/
def grantOne (s : State) : State :=
  match grantable s with
  | none => s
  | some who => actOnGrant who (grantClaim who s)

/-- A re-examination; each claimant has one claim, so four grants are the most there can be (R174). -/
def reexamine (s : State) : State := Nat.repeat grantOne 4 s

/-- The end of an event that may have made, released or withdrawn a claim, changed Ceff or brought a row to its step. -/
def settle (s : State) : State := reexamine (stepReached (reexamine s))

/-! ### PG-H (R155, R178) -/

/-- The PG-H pulse has ended: the head claim is released, and the next group is claimed or the row goes to its step (R155). -/
def groupFired (s : State) : State :=
  let t := dropClaim .head s
  match s.mech.row with
  | none => t
  | some r =>
    if r.index + 1 < r.groups.length then claimGroup { r with index := r.index + 1 } t
    else t.setMech { t.mech with row := some { r with index := r.index + 1, phase := .reached } }

/-- PG-H's wait expires (R178). -/
def pulseBeginH (s : State) : State :=
  if s.pgH.phase = .waiting ∧ genDue s.pgH s.clock then s.setPgH (startPulse s.clock s.pgH) else s

/-- PG-H's pulse expires (R155, R178). -/
def pulseEndH (s : State) : State :=
  if s.pgH.phase = .pulsing ∧ genDue s.pgH s.clock then settle (groupFired (s.setPgH (restGen s.pgH))) else s

/-! ### The drop of Ceff (R156, R175) -/

/-- A waiting head claim that exceeds Ceff − S is withdrawn and the rest of the row regrouped (R156). -/
def refitHead (s : State) : State :=
  match s.mech.row with
  | none => s
  | some r =>
    if s.rail.head.phase = .waiting ∧ s.ceff - heldUnits s < s.rail.head.units then
      claimGroup r (dropClaim .head s)
    else s

/-- A change of Ceff is followed by the regrouping and a re-examination (R174, R175). -/
def ceffChanged (s : State) : State := settle (refitHead s)

/-- The Rail Low flag after a sample (R172). -/
def railLowAfter (low : Bool) (limit tenths : Nat) : Bool :=
  if low then !decide (limit + 5 < tenths) else decide (tenths < limit)

/-- A rail voltage sample (R172). DESIGN CHOICE (log entry 55): the event carries the granted sum before the effects of R175, so RAIL_OK
does not count the grants that the rise of Ceff makes in the same event. -/
def railVoltageSample (tenths : Nat) (s : State) : State :=
  let low := railLowAfter s.rail.low s.params.railLowLimit tenths
  let t := s.setRail { s.rail with voltage := tenths, low := low }
  if low == s.rail.low then t
  else if low then
    ceffChanged (emit (.lane (.railLow tenths t.ceff t.rail.granted)) (latch .railLow t))
  else ceffChanged (emit (.lane (.railOk tenths t.ceff t.rail.granted)) t)

/-! ### The head temperature (R158, R159) -/

/-- The band of a temperature (R158). -/
def bandFor (celsius : Int) : Band :=
  if celsius < 10 then .b1 else if celsius < 25 then .b2 else if celsius < 40 then .b3
  else if celsius < 55 then .b4 else if celsius < 65 then .b5 else .over65

/-- The overheat flag after a sample (R159). -/
def overheatAfter (overheat : Bool) (celsius : Int) : Bool :=
  if overheat then decide (55 ≤ celsius) else decide (65 ≤ celsius)

/-- A head temperature sample. The first one sets the flag without an event (R158, R159, R169). -/
def headTemperatureSample (celsius : Int) (s : State) : State :=
  let hot := overheatAfter s.mech.overheat celsius
  let t := s.setMech
    { s.mech with celsius := celsius, band := bandFor celsius, overheat := hot, sampled := true }
  if hot == s.mech.overheat then t
  else if hot then
    if s.mech.sampled then emit (.print (.headHot celsius)) (latch .headHot t) else latch .headHot t
  else
    let u := emit (.print (.headCooled celsius)) t
    if u.mech.state = .waitHot then settle (startWork (u.setMech { u.mech with state := .running })) else u

/-! ### Sensors (R160, R161, R162, R169) -/

/-- A row is in progress, or a cut is claimed or under way (R161). -/
def workInProgress (s : State) : Bool :=
  (s.mech.state == .running && s.mech.row.isSome) ||
  (s.mech.state == .cutting && s.rail.cutter.phase != .none)

/-- A stop asked for while work is in progress waits; the first sensor stays first (R161). A sensor that waits silently since its first
settling, and has cleared and activated since, is told like any other (DEDUCED, log entry 30). -/
def addStop (sensor : StopSensor) (stops : List PendingStop) : List PendingStop :=
  if stops.any (fun p => p.sensor == sensor) then
    stops.map fun p => if p.sensor = sensor then { p with silent := false } else p
  else stops ++ [⟨sensor, false⟩]

/-- A stop of a first settling while work is in progress waits silently, paper-out before cover-open (R169; DEDUCED, log entry 30). -/
def addSettledStop (sensor : StopSensor) (stops : List PendingStop) : List PendingStop :=
  match sensor with
  | .paperOut => ⟨.paperOut, true⟩ :: stops
  | .coverOpen => stops ++ [⟨.coverOpen, true⟩]

/-- A paper-out or cover-open activation (R161). -/
def sensorActivated (sensor : StopSensor) (s : State) : State :=
  if s.mech.state = .stopped then reportStop sensor s
  else if workInProgress s then s.setMech { s.mech with stops := addStop sensor s.mech.stops }
  else enterStopped (s.setMech { s.mech with stops := [⟨sensor, false⟩] })

/-- The stop of a first settling: the condition is latched at once and no event is emitted; paper-out comes before cover-open (R169).
With a row or a cut in progress STOPPED is entered at its end, as R161 has it (DEDUCED, log entry 30). -/
def sensorSettledActive (sensor : StopSensor) (s : State) : State :=
  latch (stopCondition sensor)
    (if workInProgress s then s.setMech { s.mech with stops := addSettledStop sensor s.mech.stops }
     else s.setMech
      { s.mech with
        state := .stopped
        reason :=
          if s.mech.state = .stopped ∧ ¬(sensor = .paperOut ∧ s.mech.reason = some (.sensor .coverOpen)) then s.mech.reason
          else some (.sensor sensor) })

/-- A debounced state of PS_OUT is taken (R160, R161, R169). -/
def paperOutSensor (active : Bool) (s : State) : State :=
  let t := s.setMech { s.mech with paperOut := active, paperSettled := true }
  if active && !s.mech.paperOut then
    if s.mech.paperSettled then sensorActivated .paperOut t else sensorSettledActive .paperOut t
  else t

/-- A debounced state of PS_COVER is taken (R160, R161, R169). -/
def coverOpenSensor (active : Bool) (s : State) : State :=
  let t := s.setMech { s.mech with coverOpen := active, coverSettled := true }
  if active && !s.mech.coverOpen then
    if s.mech.coverSettled then sensorActivated .coverOpen t else sensorSettledActive .coverOpen t
  else t

/-- A debounced state of PS_NEAR is taken (R162, R169). -/
def nearEndSensor (active : Bool) (s : State) : State :=
  let t := s.setMech { s.mech with nearEnd := active, nearSettled := true }
  if active && !s.mech.nearEnd then latch .paperLow t else t

/-! ### Cutting (R163) -/

/-- The cutter motor is driven on CT_DRIVE while a cut's limit runs (R163). -/
def State.cutterDrive (s : State) : Bool := s.mech.jamDue.isSome

/-- The cutter motor stops and its claim is released (R163). -/
def stopCutter (s : State) : State := dropClaim .cutter (s.setMech { s.mech with jamDue := none })

/-- A debounced state of CT_HOME is taken; from away to home under a cut it completes the cut (R163). The first settling is no
arrival (R169). -/
def cutterHome (home : Bool) (s : State) : State :=
  let t := s.setMech { s.mech with home := home, homeSettled := true }
  if home && !s.mech.home && s.mech.homeSettled && s.mech.jamDue.isSome then settle (leaveHead true (stopCutter t))
  else t

/-- The jam timer expires under a cut; not due, nothing happens (R163). -/
def cutterJam (s : State) : State :=
  if dueReached s.now s.mech.jamDue then
    let t := stopCutter (s.setMech { s.mech with state := .stopped, reason := some .cutterJam, stops := [] })
    settle (s.mech.stops.foldl (fun u x => reportPending x u) (emit (.print .cutterJam) (latch .cutterJam t)))
  else s

/-! ### The release measure (R153) -/

/-- The 50 ms release measure expires; not due, nothing happens (R153). -/
def releaseMeasureExpiry (s : State) : State :=
  if s.mech.hold = .lingering ∧ dueReached s.now s.mech.lingerDue then settle (releaseHold s) else s

/-! ### The paper step and the grants as commands -/

/-- STEP_PERIOD passes, or has passed, for a row that waits for its step; otherwise nothing happens (R157). -/
def paperStep (s : State) : State :=
  if rowPhase s = some .awaiting ∧ stepReady s then
    let t := stepPaper s
    reexamine (if rowPhase t = some .reached then setRowPhase .awaiting t else t)
  else s

/-! ### PRINT_RESUME and PRINT_STATUS (R164, R168) -/

/-- Printing goes on: the state is chosen for the head entry, and a run whose last row is already on paper is finished first
(R157, R164). -/
def resumePrinting (s : State) : State :=
  match s.headEntry with
  | none => chooseState s
  | some e =>
    if entryKind e ≠ .cutMark ∧ entryRows e ≤ s.mech.done then leaveHead true (chooseState s)
    else startWork (chooseState s)

/-- PRINT_RESUME (R164). -/
def printResumeRequest (s : State) : Answer :=
  if s.mech.state ≠ .stopped ∨ s.mech.paperOut ∨ s.mech.coverOpen then
    .reply .wrongState (.resumeRefused s.mech.state s.mech.reason s.mech.paperOut s.mech.coverOpen) s
  else
    let former := s.mech.reason
    let t := settle (resumePrinting (emit (.print (.resumed former)) (s.setMech { s.mech with reason := none })))
    .reply .ok (.resumed former t.mech.state) t

/-- A refusal of PRINT_RESUME for its form carries what every refusal of it carries (R164). -/
def printResume (h : Header) (s : State) : Answer :=
  if h.wellFormed then printResumeRequest s
  else .reply .badRequest (.resumeRefused s.mech.state s.mech.reason s.mech.paperOut s.mech.coverOpen) s

/-- PRINT_STATUS (R168). -/
def printReport (s : State) : PrintReport where
  state := s.mech.state
  reason := s.mech.reason
  pendingStop := s.mech.stops.head?.map (·.sensor)
  celsius := s.mech.celsius
  band := s.mech.band
  overheat := s.mech.overheat
  paperOut := s.mech.paperOut
  nearEnd := s.mech.nearEnd
  coverOpen := s.mech.coverOpen
  home := s.mech.home
  hold := s.mech.hold
  stepperUnits := s.mech.stepperUnits
  head := s.headEntry.map fun e => ⟨entryKind e, entryRows e, s.mech.done⟩
  light := s.printerLight
  records := recordCount s.composer
  reserved := reservedCell s.composer
  entries := s.composer.lines.length
  owed := s.composer.owed

/-! ### Flush and lane reset (R148, R165, R150, R170) -/

/-- The head entry of the abandoned receipt stays for now: a run with a row in progress, or a cut mark whose cutter claim has been
made (R148, R165). -/
def headStays (s : State) (e : LineEntry) : Bool :=
  match e.run with
  | .cutMark _ => s.rail.cutter.phase != .none
  | .text _ | .feed _ => s.mech.row.isSome

/-- The Line Queue with the entries of receipt `r` removed (R148). -/
def flushLines (r : Nat) (s : State) : State :=
  match s.composer.lines with
  | [] => s
  | e :: rest =>
    let kept := rest.filter fun x => x.tag != some r
    if e.tag != some r then s.setComposer { s.composer with lines := e :: kept }
    else if headStays s e then
      (s.setComposer { s.composer with lines := e :: kept }).setMech
        { s.mech with flushed := entryKind e != .cutMark }
    else
      nextHead ((s.setComposer { s.composer with lines := kept }).setMech
        { s.mech with done := 0, row := none, flushed := false })

/-- An item of the Print Queue that belongs to receipt `r`: a record tagged with it, or its close marker (R148). -/
def flushedItem (r : Nat) (i : QueueItem) : Bool :=
  match i with
  | .record _ tag => tag == some r
  | .marker m => m.kind == .close && m.receipt == r

/-- The Print Queue with the items of receipt `r` removed and their credits returned (R148). -/
def flushQueue (r : Nat) (s : State) : State :=
  s.setComposer
    { s.composer with
      queue := s.composer.queue.filter fun i => !flushedItem r i
      owed := s.composer.owed + ((s.composer.queue.filter (flushedItem r)).map itemCredit).sum }

/-- Step 1 of an abandon (R130, R148). -/
def flushReceipt (r : Nat) (s : State) : State := flushLines r (flushQueue r s)

/-- The Print Composer's part of lane reset (R150). -/
def composerLaneReset (s : State) : State :=
  s.setComposer { queue := [], lines := [], owed := s.composer.owed + recordCount s.composer }

/-- The stop that stands after a lane reset: that of an active sensor, paper-out first (R170). -/
def sensorStop (m : Mech) : Option StopReason :=
  if m.paperOut then some (.sensor .paperOut) else if m.coverOpen then some (.sensor .coverOpen) else none

/-- The Print Mechanism's part of lane reset, with its claims and PG-H (R170, R182). It latches nothing: also a sensor whose stop was
still pending leaves the latched conditions as they are, as R170 keeps them, where R161 and R166 latch on stopping for the sensor (DESIGN
CHOICE, log entry 49). -/
def mechLaneReset (s : State) : State :=
  dropClaim .head (dropClaim .cutter (dropClaim .stepper
    ((s.setPgH (restGen s.pgH)).setMech
      { s.mech with
        state := if (sensorStop s.mech).isSome then .stopped else .idle
        reason := sensorStop s.mech, stops := [], hold := .released, stepperUnits := none, lingerDue := none
        done := 0, row := none, flushed := false, jamDue := none })))

/-! ### The commands -/

/-- The Line Queue has room for the oldest item: it is taken (R142). -/
def execComposeItem (s : State) : Result :=
  .next (settle
    (if s.composer.lines.isEmpty then
      (if (composeOne s).composer.lines.isEmpty then composeOne s else nextHead (composeOne s))
     else composeOne s))

/-- A waiting claim is granted when there is room (R174). -/
def execClaimGrant (s : State) : Result := .next (settle s)

def execPaperStep (s : State) : Result := .next (paperStep s)

def execReleaseMeasureExpiry (s : State) : Result := .next (releaseMeasureExpiry s)

def execHeadTemperatureSample (celsius : Int) (s : State) : Result := .next (headTemperatureSample celsius s)

def execPaperOutSensor (active : Bool) (s : State) : Result := .next (paperOutSensor active s)

def execCoverOpenSensor (active : Bool) (s : State) : Result := .next (coverOpenSensor active s)

def execNearEndSensor (active : Bool) (s : State) : Result := .next (nearEndSensor active s)

def execCutterHome (home : Bool) (s : State) : Result := .next (cutterHome home s)

def execCutterJam (s : State) : Result := .next (cutterJam s)

def execRailVoltageSample (tenths : Nat) (s : State) : Result := .next (railVoltageSample tenths s)

def execPrintResume (h : Header) (s : State) : Result := .next (request h 0x05 (printResume h) s)

/-- PRINT_STATUS is taken in every state and changes nothing (R168). -/
def execPrintStatus (h : Header) (s : State) : Result :=
  .next (request h 0x06 (formed h fun s => .reply .ok (.printStatus (printReport s)) s) s)

end Sys2Proof.Machine
end

