-- ==== Sys2Proof/Machine/Drawer.lean ====
section
/-! DEFINITION. The Drawer Controller and PG-D's notices to it: the release, its attempts and its outcome, the sensor, and the
supervision of an opening (chapter 11, R183 to R192; R126). -/

namespace Sys2Proof.Machine

/-! ### The sensor (R184) -/

/-- The meaning of a settled level (R184). -/
def levelOpen (p : SensorPolarity) (high : Bool) : Bool :=
  match p with
  | .openHigh => high
  | .openLow => !high

/-- The sensor reads OPEN; before the first settling it is SHUT (R184). -/
def State.sensorOpen (s : State) : Bool :=
  match s.drawer.level with
  | none => false
  | some high => levelOpen s.params.drawerSensorPolarity high

/-! ### The end of a release (R187, R188, R126) -/

/-- The receipt context is told that a release ended OPENED (R126). -/
def tellOpened (s : State) : State := s.setReceipt { s.receipt with permitOut := false }

/-- The receipt context is told that a release ended NOT_OPENED: a permit out is restored (R126). -/
def tellNotOpened (s : State) : State :=
  s.setReceipt { s.receipt with permit := s.receipt.permit || s.receipt.permitOut, permitOut := false }

/-- No release is in progress any more. -/
def endRelease (d : Drawer) : Drawer :=
  { d with authorization := none, retriesLeft := 0, confirmDue := none, openedInPulse := none }

/-- An opening begins (R189). -/
def beginOpening (cause : OpenCause) (stamp : Stamp) (d : Drawer) : Drawer :=
  { d with state := .opened, cause := some cause, openStamp := some stamp, tooLong := false }

/-- The drawer is CLOSED. -/
def shutDrawer (d : Drawer) : Drawer :=
  { d with state := .closed, cause := none, openStamp := none, tooLong := false }

/-- DRAWER_EVENT OPENED of the release in progress (R188). -/
def emitOpened (s : State) : State := emit (.drawer (.opened s.drawer.authorization s.drawer.attempts)) s

/-- The release ends OPENED with the drawer open since `stamp` (R188). -/
def releaseOpened (stamp : Stamp) (s : State) : State :=
  let t := tellOpened (emitOpened s)
  t.setDrawer (beginOpening .release stamp (endRelease t.drawer))

/-- The release ends NOT_OPENED (R187). -/
def releaseNotOpened (s : State) : State :=
  let t := tellNotOpened
    (emit (.drawer (.notOpened s.drawer.authorization s.drawer.attempts)) (latch .notOpened s))
  t.setDrawer { endRelease t.drawer with state := .closed }

/-- The drawer claim is withdrawn or released, with PG-D stopped if the grant has triggered it (R173, R180, R188). -/
def giveUpSolenoid (s : State) : State := dropClaim .drawer (restPgD s)

/-! ### Sensor changes (R188, R189, R190) -/

/-- The sensor turns OPEN (R188, R189). -/
def sensorTurnedOpen (s : State) : State :=
  match s.drawer.state with
  | .closed =>
    emit (.drawer .forcedOpen) (latch .forcedOpen (s.setDrawer (beginOpening .forced s.now s.drawer)))
  | .claiming | .pulseWait => settle (releaseOpened s.now (giveUpSolenoid s))
  | .confirming => releaseOpened s.now s
  | .pulsing => s.setDrawer { s.drawer with openedInPulse := some s.now }
  | .opened => s

/-- DRAWER_EVENT CLOSED of the opening in progress (R190). -/
def emitClosed (s : State) : State :=
  emit (.drawer (.closed s.drawer.cause (age s.now (s.drawer.openStamp.getD s.now)) s.drawer.tooLong)) s

/-- The sensor turns SHUT (R190); during a release it changes only the sensor (R188). -/
def sensorTurnedShut (s : State) : State :=
  match s.drawer.state with
  | .opened =>
    let t := emitClosed s
    t.setDrawer (shutDrawer t.drawer)
  | .closed | .claiming | .pulseWait | .pulsing | .confirming => s

/-- The first settling: an OPEN drawer starts an opening with cause START and no event (R184). With a release in progress it is
taken as a sensor change (log entry 9). -/
def firstSettling (s : State) : State :=
  if !s.sensorOpen then s
  else if s.drawer.state = .closed then s.setDrawer (beginOpening .start s.now s.drawer)
  else sensorTurnedOpen s

/-- The consequences of a change of the sensor's meaning from `before` (R184). -/
def judgeSensor (before : Bool) (s : State) : State :=
  if before == s.sensorOpen then s else if s.sensorOpen then sensorTurnedOpen s else sensorTurnedShut s

/-- A debounced level of DR_SENSE is taken (R184). -/
def drawerSensorChange (high : Bool) (s : State) : State :=
  let t := s.setDrawer { s.drawer with level := some high }
  if s.drawer.level.isNone then firstSettling t else judgeSensor s.sensorOpen t

/-! ### PG-D and the confirmation window (R186, R187, R188) -/

/-- PG-D's wait expires and the solenoid is driven (R178, R186). -/
def pulseBeginD (s : State) : State :=
  if s.pgD.phase = .waiting ∧ genDue s.pgD s.now then
    (s.setPgD (startPulse s.now s.pgD)).setDrawer { s.drawer with state := .pulsing }
  else s

/-- The pulse has ended with the drawer opened during it (R188). A drawer shut again is CLOSED, with both events. -/
def pulseEndOpened (stamp : Stamp) (s : State) : State :=
  let t := releaseOpened stamp s
  if s.sensorOpen then t
  else
    let u := emitClosed t
    u.setDrawer (shutDrawer u.drawer)

/-- PG-D's pulse has ended: the claim is released and the outcome awaited or judged (R186, R188). -/
def solenoidFired (s : State) : State :=
  let t := dropClaim .drawer s
  match s.drawer.openedInPulse with
  | some stamp => pulseEndOpened stamp t
  | none =>
    t.setDrawer { t.drawer with state := .confirming, confirmDue := some (after s.now s.params.drawerConfirm) }

/-- PG-D's pulse expires (R178, R186). -/
def pulseEndD (s : State) : State :=
  if s.pgD.phase = .pulsing ∧ genDue s.pgD s.now then settle (solenoidFired (restPgD s)) else s

/-- A drawer claim of DRAWER_UNITS is made and the state becomes CLAIMING; the re-examination follows at once (R185, R187). -/
def claimSolenoid (s : State) : State :=
  settle (makeClaim .drawer s.params.drawerUnits (s.setDrawer { s.drawer with state := .claiming }))

/-- The confirm timer expires; not due, nothing happens (R187). -/
def confirmTimeout (s : State) : State :=
  if s.drawer.state = .confirming ∧ dueReached s.now s.drawer.confirmDue then
    if s.drawer.retriesLeft = 0 then releaseNotOpened s
    else
      claimSolenoid (s.setDrawer
        { s.drawer with
          confirmDue := none
          retriesLeft := s.drawer.retriesLeft - 1
          attempts := s.drawer.attempts + 1 })
  else s

/-! ### Open supervision (R189) -/

/-- The present opening has lasted DRAWER_OPEN_LIMIT with its flag clear (R189). -/
def openLimitDue (s : State) : Bool :=
  match s.drawer.openStamp with
  | some stamp =>
    s.drawer.state == .opened && !s.drawer.tooLong &&
    decide (s.params.drawerOpenLimit * 1000 ≤ age s.now stamp)
  | none => false

/-- The open limit is reached; not due, nothing happens (R189). -/
def openTooLong (s : State) : State :=
  if openLimitDue s then
    emit (.drawer (.openTooLong (age s.now (s.drawer.openStamp.getD s.now)) s.drawer.cause))
      (latch .openTooLong (s.setDrawer { s.drawer with tooLong := true }))
  else s

/-! ### Requests (R185, R191) -/

/-- A refusal of DRAWER_RELEASE carries the drawer state and the permit (R185). -/
def releaseRefused (status : Status) (s : State) : Answer :=
  .reply status (.releaseRefused s.drawer.state s.receipt.permit) s

/-- How a release taken now is authorized: a permit of 1 is used (R185 step 1). -/
def authorizationOf (s : State) : Authorization := if s.receipt.permit then .permit else .noSale

/-- An accepted release (R185). -/
def acceptRelease (s : State) : State :=
  let t :=
    if s.receipt.permit then s.setReceipt { s.receipt with permit := false, permitOut := true } else s
  claimSolenoid (t.setDrawer
    { t.drawer with
      authorization := some (authorizationOf s), retriesLeft := s.params.drawerRetries, attempts := 1
      confirmDue := none, openedInPulse := none })

/-- DRAWER_RELEASE (R185). -/
def drawerReleaseRequest (s : State) : Answer :=
  if s.drawer.state = .opened then releaseRefused .drawerOpen s
  else if s.drawer.state ≠ .closed then releaseRefused .busy s
  else if s.receipt.mode = .selfService ∧ !s.attendant then releaseRefused .attendantRequired s
  else if s.receipt.mode = .attended ∧ !s.receipt.permit ∧ !s.attendant then releaseRefused .noPermit s
  else .reply .ok (.released (authorizationOf s) s.params.drawerRetries) (acceptRelease s)

/-- A malformed DRAWER_RELEASE is refused like any other (R185). -/
def drawerRelease (h : Header) (s : State) : Answer :=
  if h.wellFormed then drawerReleaseRequest s else releaseRefused .badRequest s

/-- DRAWER_STATUS (R191). -/
def drawerReport (s : State) : DrawerReport where
  state := s.drawer.state
  sensorOpen := s.sensorOpen
  release := s.drawer.authorization.map fun a => ⟨a, s.drawer.retriesLeft, s.drawer.attempts⟩
  confirmLeft := s.drawer.confirmDue.map fun due => age due s.now
  permit := s.receipt.permit
  permitOut := s.receipt.permitOut
  opening :=
    if s.drawer.state = .opened then
      some ⟨s.drawer.openStamp, age s.now (s.drawer.openStamp.getD s.now), s.drawer.cause, s.drawer.tooLong⟩
    else none
  generator := s.pgD.phase
  claim := s.rail.drawer.phase

/-! ### Lane reset (R192) -/

/-- The Drawer Controller's part of lane reset (R192). -/
def drawerLaneReset (s : State) : State :=
  let t := giveUpSolenoid s
  let d : Drawer := { endRelease t.drawer with attempts := 0 }
  t.setDrawer
    (if s.sensorOpen then
       (if d.state = .opened then d
        else beginOpening .release (s.drawer.openedInPulse.getD s.now) d)
     else shutDrawer d)

/-! ### The commands -/

def execPulseBegin (gen : Gen) (s : State) : Result :=
  .next (match gen with
    | .H => pulseBeginH s
    | .D => pulseBeginD s)

def execPulseEnd (gen : Gen) (s : State) : Result :=
  .next (match gen with
    | .H => pulseEndH s
    | .D => pulseEndD s)

def execDrawerRelease (h : Header) (s : State) : Result := .next (request h 0x01 (drawerRelease h) s)

/-- DRAWER_STATUS is taken in every state and changes nothing (R191). -/
def execDrawerStatus (h : Header) (s : State) : Result :=
  .next (request h 0x02 (formed h fun s => .reply .ok (.drawerStatus (drawerReport s)) s) s)

def execDrawerSensorChange (high : Bool) (s : State) : Result := .next (drawerSensorChange high s)

def execConfirmTimeout (s : State) : Result := .next (confirmTimeout s)

def execOpenTooLong (s : State) : Result := .next (openTooLong s)

end Sys2Proof.Machine
end

