-- ==== Sys2Proof/Machine/Receipt.lean ====
section
/-! DEFINITION. The receipt context's requests: the lane mode, opening, tenders, closing and abandoning (chapter 7, R121 to
R135). -/

namespace Sys2Proof.Machine

/-! ### Replies (R132) -/

/-- The receipt summary of every receipt reply (R132). -/
def receiptSummary (r : Receipt) : ReceiptSummary where
  state := r.state
  number := r.number
  subtotal := r.subtotal
  tickets := r.tickets.length
  slips := r.slips.length
  tenders := r.tenders.length
  permit := r.permit
  marker := r.marker
  mode := r.mode

/-- A receipt reply, with the summary taken after the request's effect (R132). -/
def receiptReply (status : Status) (extra : ReceiptExtra) (s : State) : Answer :=
  .reply status (.receipt (receiptSummary s.receipt) extra) s

/-- A refused receipt request carries the summary all the same (R132). -/
def receiptRefusal (status : Status) (s : State) : Answer := receiptReply status .none s

/-- A receipt request is judged for its form first (R124, R125, R128, R130). -/
def receiptFormed (h : Header) (judge : State → Answer) (s : State) : Answer :=
  if h.wellFormed then judge s else receiptRefusal .badRequest s

/-- The receipt is OPEN or TENDERING. -/
def inSale (r : Receipt) : Bool := r.state == .opened || r.state == .tendering

/-! ### LANE_MODE (R121, R122) -/

/-- An accepted change of lane mode: the effects of R122, steps 1 to 3. -/
def changeMode (mode : LaneMode) (s : State) : State :=
  let t := cancelWeighing .modeChange (s.setReceipt { s.receipt with mode := mode })
  let u :=
    match mode with
    | .selfService => bagEnterSelf t
    | .attended => bagEnterAttended t
  emit (.lane (.modeChanged mode)) u

/-- A refused LANE_MODE carries the mode in force and the receipt state (R121). -/
def laneModeRefused (status : Status) (s : State) : Answer :=
  .reply status (.laneModeRefused s.receipt.mode s.receipt.state) s

/-- LANE_MODE (R121). -/
def laneModeRequest (h : Header) (mode : Option LaneMode) (s : State) : Answer :=
  if !h.wellFormed then laneModeRefused .badRequest s
  else
    match mode with
    | none => laneModeRefused .badRequest s
    | some mode =>
      if s.receipt.state ≠ .closed then laneModeRefused .wrongState s
      else if !s.attendant then laneModeRefused .attendantRequired s
      else if mode = s.receipt.mode then .reply .ok (.laneMode mode true) s
      else .reply .ok (.laneMode mode false) (changeMode mode s)

/-! ### OPEN_RECEIPT (R124) -/

/-- The receipt an accepted OPEN_RECEIPT opens (R124). -/
def openedReceipt (number : Nat) (now : Stamp) (r : Receipt) : Receipt :=
  { emptyLists r with state := .opened, number := some number, openedTime := some now, permit := false, permitOut := false }

/-- OPEN_RECEIPT (R124). The reply says that a permit was discarded when the permit was 1; a permit out alone is no discarded permit
(DESIGN CHOICE, log entry 46). -/
def openReceiptRequest (number : Nat) (s : State) : Answer :=
  if ¬(1 ≤ number ∧ number ≤ 999999) then receiptRefusal .outOfRange s
  else if s.receipt.state = .closing then receiptRefusal .busy s
  else if s.receipt.state ≠ .closed then receiptRefusal .wrongState s
  else if s.receipt.marker.isSome then receiptRefusal .busy s
  else if s.params.closeBeforeSale ∧ s.drawer.state ≠ .closed then receiptRefusal .drawerOpen s
  else receiptReply .ok (.opened s.receipt.permit) (s.setReceipt (openedReceipt number s.now s.receipt))

/-! ### TENDER (R125) -/

/-- The slip id joins the slip list if it is not already there (R125, R127). -/
def joinSlipList (id : Nat) (r : Receipt) : Receipt :=
  if r.slips.contains id then r else { r with slips := r.slips ++ [id] }

/-- The receipt after a recorded tender (R125, steps 1 to 4). -/
def tenderedReceipt (line : TenderLine) (r : Receipt) : Receipt :=
  let t := match line.slip with
    | some id => joinSlipList id r
    | none => r
  { t with tenders := t.tenders ++ [line], permit := t.permit || line.kind == .cash, state := .tendering }

/-- An accepted TENDER: the slip of a CARD tender is attached to the receipt (R113, R125). -/
def recordTender (line : TenderLine) (s : State) : State :=
  let t := match line.slip with
    | some id => attachTender id (s.receipt.number.getD 0) s
    | none => s
  t.setReceipt (tenderedReceipt line t.receipt)

/-- TENDER (R125). -/
def tenderRequest (kind : Option TenderKind) (amount : Int) (slip : Option Nat) (s : State) : Answer :=
  match kind with
  | none => receiptRefusal .badRequest s
  | some kind =>
    if (kind = .card) ≠ (slip.isSome = true) then receiptRefusal .badRequest s
    else if ¬(1 ≤ amount ∧ amount ≤ 99999999) then receiptRefusal .outOfRange s
    else if !inSale s.receipt then receiptRefusal .wrongState s
    else if 8 ≤ s.receipt.tenders.length then receiptRefusal .tableFull s
    else if (slip.map fun id => (tenderableSlip s id).isNone).getD false then receiptRefusal .unknownSlip s
    else
      let t := recordTender ⟨kind, amount.toNat, slip⟩ s
      receiptReply .ok (.tendered t.receipt.tenders.length t.receipt.tenders.length t.receipt.permit) t

/-! ### CLOSE_RECEIPT (R128) -/

/-- A ticket as the SUBTOTAL_MISMATCH reply gives it (R128). -/
def ticketLine (t : Ticket) : TicketLine := ⟨t.number, t.price, t.state, t.voidRequested⟩

/-- The tickets of the ticket list, in its order (R128). -/
def listedTickets (s : State) : List TicketLine :=
  s.receipt.tickets.filterMap fun n => (findTicket s n).map ticketLine

/-- An item joins the Print Queue; joining an empty queue makes the composer attempt (R138, R142). -/
def enqueue (i : QueueItem) (s : State) : State :=
  if s.composer.queue.isEmpty then settle (composeAttempt (joinQueue i s)) else joinQueue i s

/-- An accepted CLOSE_RECEIPT (R128). -/
def acceptClose (cut : CutKind) (s : State) : State :=
  let m : Marker := ⟨.close, s.receipt.number.getD 0, cut⟩
  enqueue (.marker m) (s.setReceipt { s.receipt with state := .closing, marker := some m })

/-- CLOSE_RECEIPT (R128). -/
def closeReceiptRequest (subtotal : Int) (cut : Option CutKind) (s : State) : Answer :=
  match cut with
  | none => receiptRefusal .badRequest s
  | some cut =>
    if !inSale s.receipt then receiptRefusal .wrongState s
    else if s.verifier = .hold then receiptRefusal .baggingHold s
    else if s.receipt.mode ≠ .attended ∧ s.bag.queue ≠ [] then receiptRefusal .baggingPending s
    else if subtotal ≠ (s.receipt.subtotal : Int) then
      receiptReply .subtotalMismatch (.mismatch s.receipt.subtotal (listedTickets s)) s
    else receiptReply .ok (.closing s.receipt.number s.receipt.subtotal) (acceptClose cut s)

/-! ### ABANDON_RECEIPT (R130) -/

/-- The abandon marker is placed, and the composer makes its attempt (R130 step 2, R148). -/
def placeAbandonMarker (number : Nat) (s : State) : State :=
  let m : Marker := ⟨.abandon, number, .partialCut⟩
  settle (composeAttempt (joinQueue (.marker m) (s.setReceipt { s.receipt with marker := some m })))

/-- Steps 3 to 9 of an accepted ABANDON_RECEIPT (R130). -/
def endAbandoned (before : Receipt) (s : State) : State :=
  let ended := s.setReceipt { s.receipt with state := .closed }
  let removed := closeSlips before.number (closeTickets before.number ended)
  let permitted := removed.setReceipt { removed.receipt with permit := false, permitOut := false }
  let told := emit (.receiptDone (receiptReport before .abandoned s.now)) (bagAbandon permitted)
  makePendingSwitch (told.setReceipt (emptyLists told.receipt))

/-- An accepted ABANDON_RECEIPT, steps 1 to 9 (R130). -/
def acceptAbandon (s : State) : State :=
  let number := s.receipt.number.getD 0
  endAbandoned s.receipt (placeAbandonMarker number (flushReceipt number s))

/-- ABANDON_RECEIPT (R130). -/
def abandonReceiptRequest (s : State) : Answer :=
  if s.receipt.state = .closed then receiptRefusal .wrongState s
  else if s.receipt.mode ≠ .attended ∧ !s.attendant then receiptRefusal .attendantRequired s
  else
    receiptReply .ok
      (.abandoned s.receipt.number s.receipt.tickets.length s.receipt.slips.length s.receipt.tenders.length
        (tenderSum s.receipt))
      (acceptAbandon s)

/-! ### Lane reset (R134) -/

/-- The receipt context's part of lane reset (R134). -/
def receiptLaneReset (s : State) : State :=
  s.setReceipt
    { emptyLists s.receipt with state := .closed, permit := false, permitOut := false, marker := none }

/-! ### The commands -/

def execLaneMode (h : Header) (mode : Option LaneMode) (s : State) : Result :=
  .next (request h 0x10 (laneModeRequest h mode) s)

def execOpenReceipt (h : Header) (number : Nat) (s : State) : Result :=
  .next (request h 0x01 (receiptFormed h (openReceiptRequest number)) s)

def execTender (h : Header) (kind : Option TenderKind) (amount : Int) (slip : Option Nat) (s : State) : Result :=
  .next (request h 0x02 (receiptFormed h (tenderRequest kind amount slip)) s)

def execCloseReceipt (h : Header) (subtotal : Int) (cut : Option CutKind) (s : State) : Result :=
  .next (request h 0x03 (receiptFormed h (closeReceiptRequest subtotal cut)) s)

def execAbandonReceipt (h : Header) (s : State) : Result :=
  .next (request h 0x04 (receiptFormed h abandonReceiptRequest) s)

end Sys2Proof.Machine
end

