-- ==== Sys2Proof/Machine/Weighing.lean ====
section
/-! DEFINITION. The sample arrival and the silence measure: classification, signal fault and recovery, filter, reading, initial
zero, zero tracking, limits, and the offer to the neighbouring block (chapter 1, R2 to R19; the count window of R32). -/

namespace Sys2Proof.Machine

/-! ### Signal fault and recovery (R3, R4, R5) -/

/-- What a rail code and a silence expiry do to the channel record, by the state it was in (R3, R4, R32). -/
def faulted (ch : Channel) : Channel :=
  match ch.state with
  | .off => ch
  | .uncalibrated => { ch with signalFault := true, goodRun := 0, filter := [], counts := [] }
  | .fault => { ch with signalFault := true, goodRun := 0 }
  | .filling | .zeroing | .ready =>
    { ch with
      state := .fault, signalFault := true, goodRun := 0, filter := [], stability := [], counts := []
      stable := false, stableSince := none, reading := none, aztStart := none }

/-- The verifier keeps what channel B offers (R10, R93). -/
def noteOffer (s : State) : State :=
  s.setBag { s.bag with offered := ⟨s.chanB.state, s.chanB.stable, s.chanB.reading.bind (·.nd)⟩ }

/-- The neighbouring block is offered a state of the channel: channel P's is of no effect, channel B's is kept, and is a scale fault once
it is not READY (R10, R90, R93; log entry 43). -/
def offerState (c : Chan) (s : State) : State :=
  match c with
  | .P => s
  | .B => if s.chanB.state = .ready then noteOffer s else scaleLost (noteOffer s)

/-- SIGNAL_FAULT latches and the channel changes state (R3, R4). -/
def signalFault (c : Chan) (s : State) : State :=
  offerState c (latch (.signalFault c) (s.setChan c (faulted (s.chan c))))

/-- A good sample while the signal fault flag is set: it counts, and the eighth ends the fault as the first entry of the filter
window (R5). -/
def recovered (ch : Channel) (raw : Int) : Channel :=
  if ch.goodRun < 7 then { ch with goodRun := ch.goodRun + 1 }
  else
    { ch with
      signalFault := false, goodRun := 0, filter := [raw], stability := []
      state := if ch.state = .fault then .filling else ch.state }

/-! ### The reading of an arrival (R10) -/

/-- Step 2: the gross joins the stability window and the stable flag is evaluated (R18). -/
def joinStability (m : MetParams) (c : Chan) (now : Stamp) (ch : Channel) (gross : Int) : Channel :=
  let window := pushWindow m.stabWindow ch.stability gross
  let stable := decide (window.length = m.stabWindow ∧ spread window ≤ bandOf m c)
  { ch with
    stability := window
    stable := stable
    stableSince := if stable then (if ch.stable then ch.stableSince else some now) else none }

/-- The initial zero attempt of a stable arrival; the flag says ZERO_RANGE is to be latched (R11). -/
def attemptZero (m : MetParams) (c : Chan) (ch : Channel) (g : Int) : Channel × Bool :=
  if !ch.stable then (ch, false)
  else if (g.natAbs : Int) * 10 ≤ maxOf m c then
    ({ rezero ch g with zInit := g, zeroEstablished := true, zeroFailed := false, state := .ready }, false)
  else ({ ch with zeroFailed := true }, true)

/-- Step 3: the initial zero attempt in ZEROING, zero tracking in READY, each with the condition it latches (R11, R13). -/
def zeroStep (m : MetParams) (c : Chan) (now : Stamp) (ch : Channel) (g gross : Int) : Channel × List Condition :=
  if ch.state = .ready then
    ((trackZero m c now ch g gross).1, if (trackZero m c now ch g gross).2 then [.zeroLimit c] else [])
  else
    ((attemptZero m c ch g).1, if (attemptZero m c ch g).2 then [.zeroRange c] else [])

/-- The overload limit is exceeded (R19). -/
def isOverload (m : MetParams) (c : Chan) (gross : Int) : Bool := decide (maxOf m c + 9 * e2Of m c < gross)

/-- The underload limit is exceeded (R19). -/
def isUnderload (m : MetParams) (c : Chan) (gross : Int) : Bool := decide (gross < -(20 * e1Of m c))

/-- Latches each condition of a list. -/
def latchAll (l : List Condition) (s : State) : State := l.foldl (fun t c => latch c t) s

/-- Step 7: the current reading is offered to the neighbouring block (R10). `turnedStable`: the stable flag turned true at this
arrival. -/
def offerReading (c : Chan) (turnedStable : Bool) (s : State) : State :=
  match c with
  | .P => offerP turnedStable s
  | .B => offerB (offerState .B s)

/-- Steps 1 to 7 of R10 on a channel that is ZEROING or READY. -/
def takeFiltered (c : Chan) (f : Int) (s : State) : State :=
  let ch := s.chan c
  let cal := calOf s.store.work c
  let g := rawGross (cal.zCal.getD 0) (cal.span.getD 0) f
  let gross := clamp32 (g - ch.zOp)
  let joined := joinStability s.met c s.now ch gross
  let zeroed := zeroStep s.met c s.now joined g gross
  let grossNow := clamp32 (g - zeroed.1.zOp)
  let judged := zeroed.1.state == .ready
  let isOver := judged && isOverload s.met c grossNow
  let isUnder := judged && isUnderload s.met c grossNow
  let limits := (if isOver then [.overload c] else []) ++ (if isUnder then [.underload c] else [])
  offerReading c (!ch.stable && joined.stable)
    (latchAll (zeroed.2 ++ limits)
      (s.setChan c { zeroed.1 with reading := some (weigh s.met c zeroed.1 g isOver isUnder s.now) }))

/-- A full filter window produces f: UNCALIBRATED keeps it for the calibration requests, FILLING goes to READY or ZEROING, and
the reading follows (R8, R32). -/
def takeFull (c : Chan) (s : State) : State :=
  let ch := s.chan c
  let f := filtered (filterLenOf s.met c) ch.filter
  let counted := { ch with counts := pushWindow s.met.stabWindow ch.counts f }
  match ch.state with
  | .off | .fault | .uncalibrated => s.setChan c counted
  | .filling =>
    takeFiltered c f (s.setChan c
      { counted with
        state := if ch.zeroEstablished then .ready else .zeroing
        zeroFailed := if ch.zeroEstablished then ch.zeroFailed else false })
  | .zeroing | .ready => takeFiltered c f (s.setChan c counted)

/-- A good sample enters the filter window (R8). -/
def feedFilter (c : Chan) (raw : Int) (s : State) : State :=
  let window := pushWindow (filterLenOf s.met c) (s.chan c).filter raw
  let t := s.setChan c { s.chan c with filter := window }
  if window.length = filterLenOf s.met c then takeFull c t else t

/-! ### The two events (R2, R4) -/

/-- The two rail codes (R2). -/
def isRailCode (raw : Int) : Bool := raw == 8388607 || raw == -8388608

/-- A sample of an enabled channel is classified; the silence measure has restarted (R2). -/
def classify (c : Chan) (raw : Int) (s : State) : State :=
  if isRailCode raw then signalFault c s
  else if (s.chan c).signalFault then offerState c (s.setChan c (recovered (s.chan c) raw))
  else feedFilter c raw s

/-- A sample arrival (R2). The weight report is considered once, whatever changed in the arrival (R23). -/
def sampleArrival (c : Chan) (raw : Int) (s : State) : State :=
  if (s.chan c).state = .off then s
  else
    considerReport c
      (classify c raw (s.setChan c { s.chan c with lastSample := s.now, silenceStart := some s.now }))

/-- The silence measure of an enabled channel has run 100 ms (R4). -/
def silenceDue (s : State) (c : Chan) : Bool :=
  match (s.chan c).silenceStart with
  | some start => (s.chan c).state != .off && decide (100 ≤ age s.now start)
  | none => false

/-- The silence expiry; the measure does not restart. Not due, nothing happens (R4, R23). -/
def silenceExpiry (c : Chan) (s : State) : State :=
  if silenceDue s c then
    considerReport c (signalFault c (s.setChan c { s.chan c with silenceStart := none }))
  else s

/-! ### The commands -/

def execSampleArrival (channel : Chan) (count : Int) (s : State) : Result := .next (sampleArrival channel count s)

def execSilenceExpiry (channel : Chan) (s : State) : Result := .next (silenceExpiry channel s)

end Sys2Proof.Machine
end

