-- ==== Sys2Proof/Machine/Clock.lean ====
section
/-! DEFINITION. The passing of time: what the part does on its own when no command waits (00_scope section 5.5). One microsecond
passes, and the expiries then due join the queue as the commands that the opcode table names for them (log entry 7). -/

namespace Sys2Proof.Machine

/-- A command when its condition holds. -/
def whenDue (due : Bool) (c : Instr) : List Instr := if due then [c] else []

/-- The 500 ms light measure has expired in HOLD (R95). -/
def lightDue (s : State) : Bool := s.verifier == .hold && dueReached s.now s.bag.lightDue

/-- A pulse generator's wait has expired (R178). -/
def waitExpired {w : Nat} (g : PulseGen w) (now : BitVec w) : Bool := g.phase == .waiting && genDue g now

/-- A pulse generator's pulse has expired (R178). -/
def pulseExpired {w : Nat} (g : PulseGen w) (now : BitVec w) : Bool := g.phase == .pulsing && genDue g now

/-- The expiries of the scale channels and of the records that age (R4, R24, R52, R83, R117). -/
def recordExpiries (s : State) : List Instr :=
  whenDue (silenceDue s .P) (.silenceExpiry .P) ++ whenDue (silenceDue s .B) (.silenceExpiry .B) ++
  whenDue (periodDue .P s) (.periodicReport .P) ++ whenDue (periodDue .B s) (.periodicReport .B) ++
  (s.pricing.tickets.filter (ticketDue s)).map (fun t => .ticketExpired t.number) ++
  (s.bag.queue.filter (placeDue s)).map (fun e => .placeTimeout e.id) ++
  (s.card.slips.filter (slipDue s)).map (fun p => .slipExpired p.id)

/-- The expiries of the light, the card port, the generators, the mechanism and the drawer (R95, R102, R105, R153, R157, R163,
R178, R187, R189). -/
def timerExpiries (s : State) : List Instr :=
  whenDue (lightDue s) .lightPhaseToggle ++
  whenDue (recordDue s) .recordTimeout ++ whenDue (armDue s) .armTimeout ++
  whenDue (waitExpired s.pgH s.clock) (.pulseBegin .H) ++ whenDue (pulseExpired s.pgH s.clock) (.pulseEnd .H) ++
  whenDue (waitExpired s.pgD s.now) (.pulseBegin .D) ++ whenDue (pulseExpired s.pgD s.now) (.pulseEnd .D) ++
  whenDue (rowPhase s == some .awaiting && stepReady s) .paperStep ++
  whenDue (s.mech.hold == .lingering && dueReached s.now s.mech.lingerDue) .releaseMeasureExpiry ++
  whenDue (dueReached s.now s.mech.jamDue) .cutterJam ++
  whenDue (s.drawer.state == .confirming && dueReached s.now s.drawer.confirmDue) .confirmTimeout ++
  whenDue (openLimitDue s) .openTooLong

/-- One microsecond of the microsecond clock passes. -/
def advanceClock (s : State) : State := { s with clock := s.clock + 1 }

/-- What the part does when no command waits. -/
def tick (s : State) : State :=
  { advanceClock s with pending := recordExpiries (advanceClock s) ++ timerExpiries (advanceClock s) }

end Sys2Proof.Machine
end

