-- ==== Sys2Proof/Machine/Flags.lean ====
section
/-! DEFINITION. The latched conditions as flags: live states, READ_CONDITIONS and the summary byte (R20, R36, R118, R140, R166, R172,
R191, R206). -/

namespace Sys2Proof.Machine

/-- The live state of each condition at a read (R20, R36, R118, R140, R166, R172, R191, R206). -/
def liveState (s : State) : Condition → Bool
  | .overload c => ((s.chan c).reading.map (·.overload)).getD false
  | .underload c => ((s.chan c).reading.map (·.underload)).getD false
  | .signalFault c => (s.chan c).signalFault
  | .zeroRange c => (s.chan c).state == .zeroing && (s.chan c).zeroFailed
  | .zeroLimit _ => false
  | .calInvalid c => (s.chan c).state == .uncalibrated
  | .storeFault => !s.store.current
  | .readerFault => s.card.lastKind == some 0x04
  | .unsolicited => false
  | .referenceError => false
  | .paperOut => s.mech.paperOut
  | .coverOpen => s.mech.coverOpen
  | .cutterJam => s.mech.state == .stopped && s.mech.reason == some .cutterJam
  | .paperLow => s.mech.nearEnd
  | .headHot => s.mech.overheat
  | .notOpened => false
  | .forcedOpen => s.drawer.state == .opened && s.drawer.cause == some .forced
  | .openTooLong => s.drawer.tooLong
  | .railLow => s.rail.low
  | .crcDiscard | .intakeOverrun | .alertOverflow => false

/-- The latched conditions of one block. -/
def blockConditions (s : State) (b : Block) : List Condition := s.latched.filter fun c => c.block == b

/-- The latched conditions after a read of block `b`: its own are cleared and those whose live state is true latched again, the
other blocks' are as they were (R206). -/
def conditionsAfterRead (s : State) (b : Block) : List Condition :=
  Condition.all.filter fun c => if c.block == b then liveState s c else s.latched.contains c

/-- READ_CONDITIONS (R206). -/
def readConditionsRequest (block : Option Block) (s : State) : Answer :=
  match block with
  | none => refuse .badRequest s
  | some b =>
    let t := s.setLatched (conditionsAfterRead s b)
    .reply .ok (.conditions (blockConditions s b) (blockConditions t b)) t

/-- The blocks in the order of the summary byte's bits (R206). -/
def summaryBlocks : List Block := [.link, .scaleP, .scaleB, .store, .card, .print, .drawer, .rail]

/-- The summary byte: one bit per block, 1 while any condition of it is latched (R206). -/
def summaryByte (s : State) : Byte :=
  BitVec.ofNat 8
    (summaryBlocks.foldr (fun b n => 2 * n + if (blockConditions s b).isEmpty then 0 else 1) 0)

/-! ### The command -/

def execReadConditions (h : Header) (block : Option Block) (s : State) : Result :=
  .next (request h 0x03 (formed h (readConditionsRequest block)) s)

end Sys2Proof.Machine
end

