-- ==== Sys2Proof/Machine/Link.lean ====
section
/-! DEFINITION. The Lane Link Interface: the downstream receiver, discarded frames and unknown codes, identity and status, the
upstream frame builder and the link reset (chapter 12, R199 to R209; sections 12.9.1 and 12.9.2). -/

namespace Sys2Proof.Machine

/-! ### Downstream frames (R199, R200, section 12.9.1) -/

/-- The payload of a frame's bytes (section 12.9.1). -/
def framePayload (bytes : List Byte) : List Byte := (bytes.take (bytes.length - 2)).drop 5

/-- A good frame: at least 7 bytes, the CRC-16 field that of the bytes before it, and the length field the number of payload bytes held
(R200, section 12.9.1). -/
def goodFrame (bytes : List Byte) : Bool :=
  decide (7 ≤ bytes.length) &&
  (crc16 (bytes.take (bytes.length - 2))).toNat == fieldOf (bytes.drop (bytes.length - 2)) &&
  fieldOf ((bytes.drop 3).take 2) == (framePayload bytes).length

/-- A downstream frame before escapes, with its CRC-16 (section 12.9.1). -/
def frameBytes (channel tag code : Byte) (payload : List Byte) : List Byte :=
  let body := [channel, tag, code] ++ bytesOf 2 payload.length ++ payload
  body ++ bytesOf 2 (crc16 body).toNat

/-- The frame in progress is discarded and the receiver returns to HUNT (R199). -/
def discardToHunt (s : State) : State :=
  latch .crcDiscard (s.setLink { s.link with receiver := {} })

/-- A frame judged bad at its ending flag is discarded; the receiver stays in FRAME (R199, R200). -/
def discardFrame (s : State) : State := latch .crcDiscard (frameTaken s)

/-- A byte is held; a 264th byte discards the frame (R199). -/
def holdByte (value : Byte) (s : State) : State :=
  if 263 ≤ s.link.receiver.bytes.length then discardToHunt s
  else
    s.setLink { s.link with
      receiver := { phase := .frame, bytes := s.link.receiver.bytes ++ [value], escape := false } }

/-- A byte other than a flag inside a frame (R199). -/
def frameByte (value : Byte) (s : State) : State :=
  if s.link.receiver.escape then
    if value = 0x5E ∨ value = 0x5D then holdByte (value ^^^ 0x20) s else discardToHunt s
  else if value = 0x7D then
    s.setLink { s.link with receiver := { s.link.receiver with escape := true } }
  else holdByte value s

/-- A frame is discarded for a cause (R199, R200). -/
def badFrame (cause : FrameFault) (s : State) : State :=
  match cause with
  | .badCrc | .badLength => discardFrame s
  | .badEscape | .stopBitLow | .overlong => discardToHunt s

/-- A code listed for a channel other than 4 (R201). -/
def listedCode (channel code : Byte) : Bool :=
  match channel.toNat with
  | 0 => decide (1 ≤ code.toNat ∧ code.toNat ≤ 0x13)
  | 1 => decide (1 ≤ code.toNat ∧ code.toNat ≤ 0x0A)
  | 2 => decide (1 ≤ code.toNat ∧ code.toNat ≤ 0x05)
  | 3 => decide (1 ≤ code.toNat ∧ code.toNat ≤ 0x03)
  | 5 => decide (1 ≤ code.toNat ∧ code.toNat ≤ 0x02)
  | _ => false

/-- The frame is a request with an unknown code (R200). -/
def isUnknownCode (channel code : Byte) : Bool := channel != 0x04 && !listedCode channel code

/-- A request with an unknown code: with credit it is answered BAD_REQUEST with its tag (R200, R202). -/
def unknownCodeRequest (channel tag code : Byte) (s : State) : State :=
  if isUnknownCode channel code then request ⟨tag, true⟩ code (refuse .badRequest) s else s

/-! ### IDENTIFY and LINK_STATUS (R207) -/

/-- IDENTIFY (R207). -/
def identityBody (s : State) : ReplyBody :=
  .identity vendorCode partCode Config.revision s.store.serial s.store.audit s.items.generation (calValid s.store.work.calP)
    (calValid s.store.work.calB)

/-- LINK_STATUS; the free counts are 0 until the build of the frame that carries the reply sets them (R207). The occupancy of the Reply
queue is that before this reply is placed in it (DESIGN CHOICE, log entry 41). -/
def linkStatusBody (s : State) : ReplyBody :=
  .linkStatus 0 0 s.link.replies.length s.link.alerts.length s.chanP.slot.isSome s.chanB.slot.isSome s.link.run s.now

/-! ### The upstream frame (R204, R205) -/

/-- A LINK_STATUS reply takes its free counts at the build of its frame (R207). -/
def fillCounts (freeRequests freeCells : Nat) (m : Message) : Message :=
  match m with
  | .reply ⟨code, tag, status, .linkStatus _ _ r a p b run clock⟩ =>
    .reply ⟨code, tag, status, .linkStatus freeRequests freeCells r a p b run clock⟩
  | m => m

/-- The payload length of a message, at most 500 bytes (R204). The free counts of a LINK_STATUS reply have no part in it. -/
def payloadLength (m : Message) : Nat := min 500 (Config.payloadSize (fillCounts 0 0 m))

/-- What a message takes in the body: its payload and the 6-byte message header (R204). -/
def messageSize (m : Message) : Nat := 6 + payloadLength m

/-- The sources as the builder empties them, with the messages taken so far. -/
structure Build where
  linkUp : Option LinkUp
  alerts : List Alert
  replies : List Reply
  slotP : Option WeightReport
  slotB : Option WeightReport
  taken : List Message := []
  body : Nat := 0
  credits : Nat := 0

/-- A message added to the body. -/
def Build.add (b : Build) (m : Message) : Build :=
  { b with taken := b.taken ++ [m], body := b.body + messageSize m }

/-- Takes the oldest reply, which returns its request credit (R204). -/
def Build.reply? (b : Build) : Option (Message × Build) :=
  match b.replies with
  | [] => none
  | r :: rest => some (.reply r, { b with replies := rest, credits := b.credits + 1 })

def Build.alert? (b : Build) : Option (Message × Build) :=
  match b.alerts with
  | [] => none
  | a :: rest => some (.alert a, { b with alerts := rest })

def Build.linkUp? (b : Build) : Option (Message × Build) :=
  b.linkUp.map fun l => (.linkUp l, { b with linkUp := none })

def Build.report? (b : Build) : Option (Message × Build) :=
  match b.slotP with
  | some w => some (.report w, { b with slotP := none })
  | none => b.slotB.map fun w => (.report w, { b with slotB := none })

/-- The next message, and the sources without it: the order of R204, or the Reply queue before the Alert queue (R205). -/
def Build.next? (replyFirst : Bool) (b : Build) : Option (Message × Build) :=
  b.linkUp? <|> (if replyFirst then b.reply? <|> b.alert? else b.alert? <|> b.reply?) <|> b.report?

def isReply : Message → Bool
  | .reply _ => true
  | .linkUp _ | .alert _ | .report _ => false

/-- The Alert class; LINK_UP is one of its codes (R201). -/
def isAlertClass : Message → Bool
  | .linkUp _ | .alert _ => true
  | .reply _ | .report _ => false

/-- Fills up to `n` slots; the frame ends at the first message that does not fit (R204, R205). -/
def fillSlots : Nat → Bool → Build → Build
  | 0, _, b => b
  | n + 1, replyFirst, b =>
    match b.next? replyFirst with
    | none => b
    | some (m, rest) =>
      if b.body + messageSize m ≤ 512 then fillSlots n (replyFirst && !isReply m) (rest.add m) else b

/-- Something waits to be sent (R204). -/
def somethingWaits (s : State) : Bool :=
  s.link.linkUp.isSome || !s.link.alerts.isEmpty || !s.link.replies.isEmpty || s.chanP.slot.isSome ||
  s.chanB.slot.isSome || decide (0 < s.composer.owed)

/-- The run stands at 4 with a reply waiting (R205). -/
def replyForced (s : State) : Bool := s.link.run == 4 && !s.link.replies.isEmpty

/-- The slots of the next frame (R204, R205). -/
def buildSlots (s : State) : Build :=
  fillSlots 3 (replyForced s)
    { linkUp := s.link.linkUp, alerts := s.link.alerts, replies := s.link.replies
      slotP := s.chanP.slot, slotB := s.chanB.slot }

/-- The alert-only run after a build (R205). -/
def runAfter (s : State) (b : Build) : Nat :=
  if replyForced s then 0
  else if !b.taken.isEmpty && b.taken.all isAlertClass && !b.replies.isEmpty then s.link.run + 1
  else 0

/-- The frame of a build (R204). -/
def upFrame (s : State) (b : Build) : UpFrame where
  requestCredits := b.credits
  printCredits := s.composer.owed
  summary := summaryByte s
  messages := b.taken.map (fillCounts (16 - (s.link.outstanding - b.credits)) (64 - recordCount s.composer))

/-- The state after a build: the messages taken have left, the credits are returned (R202, R204, R205). -/
def sentFrame (s : State) (b : Build) : State :=
  let t := s.setLink
    { s.link with
      outstanding := s.link.outstanding - b.credits, replies := b.replies, alerts := b.alerts
      run := runAfter s b, linkUp := b.linkUp, sent := some (upFrame s b) }
  let u := t.setComposer { t.composer with owed := 0 }
  (u.setChan .P { u.chanP with slot := b.slotP }).setChan .B { u.chanB with slot := b.slotB }

/-- An upstream frame is built when something waits; a freed Alert entry lets a waiting CARD_DATA forward (R203, R204, R108). -/
def upstreamFrameBuild (s : State) : State :=
  if somethingWaits s then forwardCard (sentFrame s (buildSlots s)) else s

/-! ### The bytes of an upstream frame (R199, R211, section 12.9.2) -/

/-- The value of a status code (R201). -/
def statusCode : Status → Byte
  | .ok => 0x00 | .busy => 0x01 | .badRequest => 0x02 | .wrongState => 0x03 | .sealed => 0x04 | .auditFull => 0x05
  | .storeFault => 0x06 | .outOfRange => 0x07 | .notStable => 0x08 | .notCleared => 0x09 | .unknownItem => 0x0A
  | .unknownTicket => 0x0B | .unknownSlip => 0x0C | .unknownExpectation => 0x0D | .tableFull => 0x0E
  | .queueFull => 0x0F | .priceOverflow => 0x10 | .baggingHold => 0x11 | .baggingPending => 0x12
  | .attendantRequired => 0x13 | .noPermit => 0x14 | .drawerOpen => 0x15 | .checkMismatch => 0x16
  | .subtotalMismatch => 0x17

/-- The code of an event (R201). -/
def eventCode : Event → Byte
  | .scaleLocked _ | .ticketExpired _ _ _ _ _ | .weighingCancelled _ _ => 0x01
  | .bag _ _ _ => 0x02
  | .cardData _ => 0x03
  | .card _ => 0x04
  | .print _ => 0x05
  | .drawer _ => 0x06
  | .lane _ => 0x07
  | .receiptDone _ => 0x08

/-- Class, code, tag and status of a message (section 12.9.2). -/
def messageHead : Message → List Byte
  | .linkUp _ => [0x02, 0x09, 0x00, 0x00]
  | .alert a => [0x02, eventCode a.event, 0x00, 0x00]
  | .reply r => [0x01, r.code, r.tag, statusCode r.status]
  | .report _ => [0x03, 0x01, 0x00, 0x00]

/-- A message with its 6-byte header; the payload bytes are not laid out in the manual (R200, log entry 3). -/
def messageBytes (m : Message) : List Byte :=
  messageHead m ++ bytesOf 2 (payloadLength m) ++ (List.range (payloadLength m)).map (Config.payloadByte m)

/-- The byte of a count of credits. What it shows of more than 255 credits the manual does not say (R204): FREE VALUE, log entry 42. -/
def creditByte (n : Nat) : Byte := if n ≤ 255 then BitVec.ofNat 8 n else Config.creditByte n

/-- An upstream frame before escapes, with its CRC-16 (section 12.9.2). -/
def upFrameBytes (f : UpFrame) : List Byte :=
  let head := [BitVec.ofNat 8 f.messages.length, creditByte f.requestCredits, creditByte f.printCredits, f.summary]
  let body := head ++ f.messages.flatMap messageBytes
  body ++ bytesOf 2 (crc16 body).toNat

/-- A byte between flags: 7Eh and 7Dh are escaped (R199). -/
def escaped (b : Byte) : List Byte := if b = 0x7E ∨ b = 0x7D then [0x7D, b ^^^ 0x20] else [b]

/-- What the transmitter sends for a frame (R199, R204). -/
def lineBytes (f : UpFrame) : List Byte := [0x7E] ++ (upFrameBytes f).flatMap escaped ++ [0x7E]

/-! ### Link reset (R209, R27, R149, R36) -/

/-- LINK_UP of a link reset (R209). -/
def resetLinkUp (s : State) : LinkUp where
  reason := .linkReset
  freeRequests := 16
  freeCells := 64 - recordCount s.composer
  part := partCode
  generation := s.items.generation
  mode := s.receipt.mode
  stamp := s.now

/-- A channel at link reset: slot and baseline emptied (R27). -/
def unreported (ch : Channel) : Channel := { ch with slot := none, baseline := none }

/-- A break of 2 ms resets the link (R199, R209). -/
def linkReset (s : State) : State :=
  let t := s.setLink
    { s.link with
      receiver := {}, outstanding := 0, replies := [], run := 0, linkUp := some (resetLinkUp s) }
  let u := (t.setComposer { t.composer with owed := 0 }).setStore { t.store with held := none }
  (u.setChan .P (unreported u.chanP)).setChan .B (unreported u.chanB)

/-! ### The commands -/

def execLinkReset (s : State) : Result := .next (linkReset s)

def execBadFrame (cause : FrameFault) (s : State) : Result := .next (badFrame cause s)

def execUnknownCodeRequest (channel tag code : Byte) (s : State) : Result :=
  .next (unknownCodeRequest channel tag code s)

def execUpstreamFrameBuild (s : State) : Result := .next (upstreamFrameBuild s)

/-- IDENTIFY is answered in every state and changes none (R207). -/
def execIdentify (h : Header) (s : State) : Result :=
  .next (request h 0x01 (formed h fun s => .reply .ok (identityBody s) s) s)

/-- LINK_STATUS is answered in every state and changes none (R207). -/
def execLinkStatus (h : Header) (s : State) : Result :=
  .next (request h 0x02 (formed h fun s => .reply .ok (linkStatusBody s) s) s)

end Sys2Proof.Machine
end

