-- ==== Sys2Proof/Machine/Operands.lean ====
section
/-! DEFINITION. The operands of SET_PARAMETER and GET_PARAMETER: the coding of a value as a signed 32-bit integer (R207), the
range of every parameter, and the value in force of every name (R6, R31, R52, R78, R100, R151, R171, R183, R195, R197). -/

namespace Sys2Proof.Machine

/-! ### Coding of values (R207) -/

/-- A quantity within its range. -/
def natIn (low high : Nat) (v : Int) : Option Nat :=
  if (low : Int) ≤ v ∧ v ≤ (high : Int) then some v.toNat else none

/-- A weight in mg within its range. -/
def weightIn (low high v : Int) : Option Int := if low ≤ v ∧ v ≤ high then some v else none

/-- One of the listed values. -/
def listed (values : List Nat) (v : Int) : Option Nat :=
  if 0 ≤ v ∧ values.contains v.toNat then some v.toNat else none

/-- A division: 1,000, 2,000, 5,000, 10,000, 20,000 or 50,000 mg (R31). -/
def divisionIn (v : Int) : Option Int :=
  if ([1000, 2000, 5000, 10000, 20000, 50000] : List Int).contains v then some v else none

/-- On and off as 1 and 0; any other value is out of range. -/
def boolOf (v : Int) : Option Bool := if v = 1 then some true else if v = 0 then some false else none

def boolCode (b : Bool) : Int := if b then 1 else 0

/-- STROBE_DOTS: 64..576, a multiple of 8 (R151). -/
def strobeIn (v : Int) : Option Nat := (natIn 64 576 v).filter fun n => n % 8 == 0

/-- A named choice, numbered from 0, with NONE as −1: a line or a condition. -/
def choiceOf (n : Nat) (v : Int) : Option (Option (Fin n)) :=
  if v = -1 then some none
  else if h : 0 ≤ v ∧ v.toNat < n then some (some ⟨v.toNat, h.2⟩) else none

def choiceCode {n : Nat} (x : Option (Fin n)) : Int :=
  match x with
  | none => -1
  | some i => (i.val : Int)

def polarityOf (v : Int) : Option Polarity :=
  if v = 0 then some .activeHigh else if v = 1 then some .activeLow else none

def polarityCode : Polarity → Int
  | .activeHigh => 0
  | .activeLow => 1

def sensorPolarityOf (v : Int) : Option SensorPolarity :=
  if v = 0 then some .openHigh else if v = 1 then some .openLow else none

def sensorPolarityCode : SensorPolarity → Int
  | .openHigh => 0
  | .openLow => 1

/-- STAB_BAND: HALF, ONE, TWO as 0, 1, 2 (R31). -/
def bandFrom (v : Int) : Option StabBand :=
  if v = 0 then some .half else if v = 1 then some .one else if v = 2 then some .two else none

def bandCode (b : StabBand) : Int := bandNumber b

/-! ### Ranges -/

/-- A metrology parameter takes a value within the range of its table; a multiple or an order that involves another parameter is
checked by `metrologyFits` (R31). None for an out-of-range value and for a name that is no metrology parameter. -/
def metrologySet (name : ParamName) (v : Int) (m : MetParams) : Option MetParams :=
  match name with
  | .pMax => (weightIn 1000 60000000 v).map fun x => { m with pMax := x }
  | .pMax1 => (some v).map fun x => { m with pMax1 := x }
  | .pE1 => (divisionIn v).map fun x => { m with pE1 := x }
  | .pE2 => (divisionIn v).map fun x => { m with pE2 := x }
  | .bMax => (weightIn 1000 60000000 v).map fun x => { m with bMax := x }
  | .bE => (divisionIn v).map fun x => { m with bE := x }
  | .filterLenP => (listed [4, 8, 16, 32, 64] v).map fun x => { m with filterLenP := x }
  | .filterLenB => (listed [4, 8, 16, 32, 64] v).map fun x => { m with filterLenB := x }
  | .stabWindow => (natIn 8 64 v).map fun x => { m with stabWindow := x }
  | .stabBand => (bandFrom v).map fun x => { m with stabBand := x }
  | .aztEnable => (boolOf v).map fun x => { m with aztEnable := x }
  | .priceStep => (listed [1, 2, 5, 10] v).map fun x => { m with priceStep := x }
  | .channelEnableP | .channelEnableB | .refLifetime | .bagSettle | .bagThreshold | .bagTolAbs | .bagTolPct
  | .placeTimeout | .cardAttempts | .cardArmTimeout | .stepperUnits | .cutterUnits | .dotCurrent
  | .strobeDots | .headSettle | .heatTime1 | .heatTime2 | .heatTime3 | .heatTime4 | .heatTime5 | .stepPeriod
  | .railCapacity | .railLowLimit | .drawerUnits | .drawerPolarity | .drawerRetries | .drawerWait
  | .drawerPulse | .drawerConfirm | .drawerOpenLimit | .drawerSensorPolarity | .closeBeforeSale
  | .holdLightLine | .printerLightLine | .attendantCondition | .sealState | .railState | .unknown _ => none

/-- The cross constraints of R31, over a whole parameter set. -/
def metrologyFits (m : MetParams) : Bool :=
  decide (m.pMax % m.pE2 = 0 ∧ m.pMax1 % m.pE1 = 0 ∧ 20 * m.pE1 ≤ m.pMax1 ∧ m.pMax1 < m.pMax ∧ m.pE1 < m.pE2 ∧
    m.bMax % m.bE = 0 ∧ 20 * m.bE ≤ m.bMax)

/-- A parameter that is no metrology parameter takes a value within its own range; none otherwise. -/
def plainSet (name : ParamName) (v : Int) (p : Params) : Option Params :=
  match name with
  | .channelEnableP => (boolOf v).map fun x => { p with channelEnableP := x }
  | .channelEnableB => (boolOf v).map fun x => { p with channelEnableB := x }
  | .refLifetime => (natIn 30 600 v).map fun n => { p with refLifetime := n }
  | .bagSettle => (natIn 100 2000 v).map fun n => { p with bagSettle := n }
  | .bagThreshold => (natIn 1000 1000000 v).map fun n => { p with bagThreshold := n }
  | .bagTolAbs => (natIn 0 1000000 v).map fun n => { p with bagTolAbs := n }
  | .bagTolPct => (natIn 0 50 v).map fun n => { p with bagTolPct := n }
  | .placeTimeout => (natIn 2 60 v).map fun n => { p with placeTimeout := n }
  | .cardAttempts => (natIn 1 3 v).map fun n => { p with cardAttempts := n }
  | .cardArmTimeout => (natIn 5 120 v).map fun n => { p with cardArmTimeout := n }
  | .stepperUnits => (natIn 5 40 v).map fun n => { p with stepperUnits := n }
  | .cutterUnits => (natIn 5 80 v).map fun n => { p with cutterUnits := n }
  | .dotCurrent => (natIn 10 60 v).map fun n => { p with dotCurrent := n }
  | .strobeDots => (strobeIn v).map fun x => { p with strobeDots := x }
  | .headSettle => (natIn 0 1000 v).map fun n => { p with headSettle := n }
  | .heatTime1 => (natIn 200 2000 v).map fun n => { p with heatTime1 := n }
  | .heatTime2 => (natIn 200 2000 v).map fun n => { p with heatTime2 := n }
  | .heatTime3 => (natIn 200 2000 v).map fun n => { p with heatTime3 := n }
  | .heatTime4 => (natIn 200 2000 v).map fun n => { p with heatTime4 := n }
  | .heatTime5 => (natIn 200 2000 v).map fun n => { p with heatTime5 := n }
  | .stepPeriod => (natIn 1000 10000 v).map fun n => { p with stepPeriod := n }
  | .railCapacity => (natIn 40 200 v).map fun n => { p with railCapacity := n }
  | .railLowLimit => (natIn 180 230 v).map fun n => { p with railLowLimit := n }
  | .drawerUnits => (natIn 10 80 v).map fun n => { p with drawerUnits := n }
  | .drawerPolarity => (polarityOf v).map fun x => { p with drawerPolarity := x }
  | .drawerRetries => (natIn 0 3 v).map fun n => { p with drawerRetries := n }
  | .drawerWait => (natIn 0 500 v).map fun n => { p with drawerWait := n }
  | .drawerPulse => (natIn 20 250 v).map fun n => { p with drawerPulse := n }
  | .drawerConfirm => (natIn 100 2000 v).map fun n => { p with drawerConfirm := n }
  | .drawerOpenLimit => (natIn 10 600 v).map fun n => { p with drawerOpenLimit := n }
  | .drawerSensorPolarity => (sensorPolarityOf v).map fun x => { p with drawerSensorPolarity := x }
  | .closeBeforeSale => (boolOf v).map fun x => { p with closeBeforeSale := x }
  | .holdLightLine => (choiceOf 8 v).map fun x => { p with holdLightLine := x }
  | .printerLightLine => (choiceOf 8 v).map fun x => { p with printerLightLine := x }
  | .attendantCondition => (choiceOf 4 v).map fun x => { p with attendantCondition := x }
  | .pMax | .pMax1 | .pE1 | .pE2 | .bMax | .bE | .filterLenP | .filterLenB | .stabWindow | .stabBand
  | .aztEnable | .priceStep | .sealState | .railState | .unknown _ => none

/-- The name is that of a metrology parameter (R31). -/
def isMetrology (name : ParamName) : Bool :=
  match name with
  | .pMax | .pMax1 | .pE1 | .pE2 | .bMax | .bE | .filterLenP | .filterLenB | .stabWindow | .stabBand
  | .aztEnable | .priceStep => true
  | .channelEnableP | .channelEnableB | .refLifetime | .bagSettle | .bagThreshold | .bagTolAbs | .bagTolPct
  | .placeTimeout | .cardAttempts | .cardArmTimeout | .stepperUnits | .cutterUnits | .dotCurrent
  | .strobeDots | .headSettle | .heatTime1 | .heatTime2 | .heatTime3 | .heatTime4 | .heatTime5 | .stepPeriod
  | .railCapacity | .railLowLimit | .drawerUnits | .drawerPolarity | .drawerRetries | .drawerWait
  | .drawerPulse | .drawerConfirm | .drawerOpenLimit | .drawerSensorPolarity | .closeBeforeSale
  | .holdLightLine | .printerLightLine | .attendantCondition | .sealState | .railState | .unknown _ => false

/-! ### The value in force (R207) -/

/-- The value in force of a settable parameter; a metrology parameter is read from the working copy (R30). An accepted DRAWER_POLARITY is
in force from its acceptance, also while DR_SOL is still driven with the one before it (R181, R207; DESIGN CHOICE, log entry 50). -/
def settableValue (name : ParamName) (s : State) : Option Int :=
  match name with
  | .channelEnableP => some (boolCode s.params.channelEnableP)
  | .channelEnableB => some (boolCode s.params.channelEnableB)
  | .refLifetime => some s.params.refLifetime
  | .bagSettle => some s.params.bagSettle
  | .bagThreshold => some s.params.bagThreshold
  | .bagTolAbs => some s.params.bagTolAbs
  | .bagTolPct => some s.params.bagTolPct
  | .placeTimeout => some s.params.placeTimeout
  | .cardAttempts => some s.params.cardAttempts
  | .cardArmTimeout => some s.params.cardArmTimeout
  | .stepperUnits => some s.params.stepperUnits
  | .cutterUnits => some s.params.cutterUnits
  | .dotCurrent => some s.params.dotCurrent
  | .strobeDots => some (s.params.strobeDots)
  | .headSettle => some s.params.headSettle
  | .heatTime1 => some s.params.heatTime1
  | .heatTime2 => some s.params.heatTime2
  | .heatTime3 => some s.params.heatTime3
  | .heatTime4 => some s.params.heatTime4
  | .heatTime5 => some s.params.heatTime5
  | .stepPeriod => some s.params.stepPeriod
  | .railCapacity => some s.params.railCapacity
  | .railLowLimit => some s.params.railLowLimit
  | .drawerUnits => some s.params.drawerUnits
  | .drawerPolarity => some (polarityCode s.params.drawerPolarity)
  | .drawerRetries => some s.params.drawerRetries
  | .drawerWait => some s.params.drawerWait
  | .drawerPulse => some s.params.drawerPulse
  | .drawerConfirm => some s.params.drawerConfirm
  | .drawerOpenLimit => some s.params.drawerOpenLimit
  | .drawerSensorPolarity => some (sensorPolarityCode s.params.drawerSensorPolarity)
  | .closeBeforeSale => some (boolCode s.params.closeBeforeSale)
  | .holdLightLine => some (choiceCode s.params.holdLightLine)
  | .printerLightLine => some (choiceCode s.params.printerLightLine)
  | .attendantCondition => some (choiceCode s.params.attendantCondition)
  | .pMax => some (s.met.pMax)
  | .pMax1 => some (s.met.pMax1)
  | .pE1 => some (s.met.pE1)
  | .pE2 => some (s.met.pE2)
  | .bMax => some (s.met.bMax)
  | .bE => some (s.met.bE)
  | .filterLenP => some (s.met.filterLenP)
  | .filterLenB => some (s.met.filterLenB)
  | .stabWindow => some (s.met.stabWindow)
  | .stabBand => some (bandCode s.met.stabBand)
  | .aztEnable => some (boolCode s.met.aztEnable)
  | .priceStep => some (s.met.priceStep)
  | .sealState | .railState | .unknown _ => none

/-- What GET_PARAMETER returns; none for an unknown name (R29, R177, R207). -/
def paramValue (name : ParamName) (s : State) : Option ParamValue :=
  match name with
  | .sealState => some (.sealState s.store.sealOpen)
  | .railState => some (.railState (railReport s))
  | name => (settableValue name s).map .value

end Sys2Proof.Machine
end

