-- ==== Sys2Proof/Machine/Metrology.lean ====
section
/-! DEFINITION. The Metrology Store: the seal switch, the admission of metrology requests, calibration, the effects of an accepted
change and the store write (chapter 2, R28 to R39). -/

namespace Sys2Proof.Machine

/-! ### The seal switch (R29) -/

/-- A debounced level of SEAL_IN is taken; the first settling emits no event (R29). -/
def sealSwitchChange (high : Bool) (s : State) : State :=
  let t := s.setStore { s.store with sealOpen := high, sealSettled := true }
  if !s.store.sealSettled || high == s.store.sealOpen then t
  else if high then emit (.lane (.sealOpened s.store.audit)) t
  else emit (.lane (.sealClosed s.store.audit)) t

/-! ### The effect of an accepted change on a channel (R32, R38) -/

/-- What a metrology change touches: the channels it affects, whether it changes a channel's FILTER_LEN or STAB_WINDOW, and whether
it cancels the pending weighing (R31, R38, R39). -/
structure ChangeScope where
  channels : List Chan := []
  filterLen : Bool := false
  stabWindow : Bool := false
  cancels : Bool := false

/-- The stability window emptied, so that the channel is not stable (R18). -/
def emptyStability (ch : Channel) : Channel :=
  { ch with stability := [], stable := false, stableSince := none }

/-- The filter and count windows emptied (R32, R38). -/
def emptyFilter (ch : Channel) : Channel := { ch with filter := [], counts := [] }

/-- What every affected channel loses, whatever its state (R38). -/
def unzeroed (c : Chan) (ch : Channel) : Channel :=
  { ch with
    zeroEstablished := false, zeroFailed := false, aztStart := none, reading := none
    operatorTare := if c = .P then 0 else ch.operatorTare }

/-- The state table of R38 for an affected channel; `area` is the working copy after the change. -/
def restarted (area : MetrologyArea) (c : Chan) (filterLen : Bool) (ch : Channel) : Channel :=
  match ch.state with
  | .ready | .zeroing =>
    if filterLen then { emptyFilter (emptyStability ch) with state := .filling }
    else { emptyStability ch with state := .zeroing }
  | .filling =>
    if filterLen then { emptyFilter (emptyStability ch) with state := .filling } else emptyStability ch
  | .uncalibrated =>
    if calValid (calOf area c) then
      { emptyStability ch with
        state := if ch.filter.length = filterLenOf area.params c then .zeroing else .filling }
    else if filterLen then emptyFilter ch
    else ch
  | .fault => if filterLen then emptyFilter ch else ch
  | .off => ch

/-- A channel after an accepted change (R32, R38). -/
def changedChannel (area : MetrologyArea) (scope : ChangeScope) (c : Chan) (ch : Channel) : Channel :=
  let t := restarted area c scope.filterLen (unzeroed c ch)
  if scope.stabWindow then { t with counts := [] } else t

/-- A change reaches one channel it affects; channel B leaving READY is offered to the verifier (R38, R90). -/
def changeChannel (scope : ChangeScope) (s : State) (c : Chan) : State :=
  offerState c (s.setChan c (changedChannel s.store.work scope c (s.chan c)))

/-- An accepted change: the working copy takes it, the audit counter grows by one, the store write begins, and the channels and
the Pricing Unit follow (R30, R35, R36, R38, R39). The channels are taken before the Pricing Unit, so a scale fault's BAG_EVENTs stand
before the WEIGHING_CANCELLED of the same change; the manual gives no order between them (R38, R57, R90; DESIGN CHOICE, log entry 44). -/
def acceptChange (area : MetrologyArea) (scope : ChangeScope) (s : State) : State :=
  let t := s.setStore { s.store with work := area, audit := s.store.audit + 1, writing := true }
  let u := scope.channels.foldl (changeChannel scope) t
  let v := if scope.cancels then cancelWeighing .metrology u else u
  scope.channels.foldl (fun x c => considerReport c x) v

/-- Checks 2 to 4 of R30, then the request's own checks. -/
def admitChange (judge : State → Answer) (s : State) : Answer :=
  if s.store.writing then refuse .busy s
  else if !s.store.sealOpen then refuse .sealed s
  else if 65535 ≤ s.store.audit then refuse .auditFull s
  else judge s

/-! ### Metrology parameters (R31) -/

/-- What a change of a metrology parameter touches (R31, R39). -/
def parameterScope (name : ParamName) : ChangeScope :=
  match name with
  | .pMax | .pMax1 | .pE1 | .pE2 => { channels := [.P], cancels := true }
  | .bMax | .bE => { channels := [.B] }
  | .filterLenP => { channels := [.P], filterLen := true, cancels := true }
  | .filterLenB => { channels := [.B], filterLen := true }
  | .stabWindow => { channels := [.P, .B], stabWindow := true, cancels := true }
  | .stabBand | .aztEnable => { channels := [.P, .B], cancels := true }
  | _ => { cancels := true }

/-- The own checks of a SET_PARAMETER on a metrology parameter, and its acceptance (R31). -/
def judgeParameter (name : ParamName) (v : Int) (s : State) : Answer :=
  match metrologySet name v s.met with
  | none => refuse .outOfRange s
  | some m =>
    if !metrologyFits m then refuse .outOfRange s
    else if s.store.current ∧ m = s.met then .reply .ok (.unchangedParameter name v) s
    else
      .hold (.metrologyParameter name v (s.store.audit + 1))
        (acceptChange { s.store.work with params := m } (parameterScope name) s)

/-! ### Calibration (R32, R33, R34) -/

/-- The channel is UNCALIBRATED, ZEROING or READY with a full filter window (R33, R34). -/
def calReady (s : State) (c : Chan) : Bool :=
  let ch := s.chan c
  (ch.state == .uncalibrated || ch.state == .zeroing || ch.state == .ready) &&
  ch.filter.length == filterLenOf s.met c

/-- The channel is count-stable (R32). -/
def countStable (s : State) (c : Chan) : Bool :=
  decide ((s.chan c).counts.length = s.met.stabWindow ∧ spread (s.chan c).counts ≤ 8)

/-- The f of the latest arrival. -/
def latestCount (s : State) (c : Chan) : Int := (s.chan c).counts.getLastD 0

/-- The working copy with another calibration record for a channel. -/
def withCal (area : MetrologyArea) (c : Chan) (r : CalRecord) : MetrologyArea :=
  match c with
  | .P => { area with calP := r }
  | .B => { area with calB := r }

/-- A calibration request affects the channel it names (R38, R39). -/
def calScope (c : Chan) : ChangeScope := { channels := [c], cancels := c == .P }

/-- The own checks of CAL_ZERO, and its acceptance (R33). -/
def judgeCalZero (c : Chan) (s : State) : Answer :=
  if !calReady s c then refuse .wrongState s
  else if !countStable s c then refuse .notStable s
  else
    let r := { calOf s.store.work c with zCal := some (latestCount s c) }
    .hold (.calZeroed (latestCount s c) (calValid r) (s.store.audit + 1))
      (acceptChange (withCal s.store.work c r) (calScope c) s)

/-- Span = floor((2 × W_test × 2^24 + D) / (2 × D)) (R34). -/
def spanOf (weight d : Int) : Int := (2 * weight * 2 ^ 24 + d) / (2 * d)

/-- The own checks of CAL_SPAN, and its acceptance (R34). -/
def judgeCalSpan (c : Chan) (weight : Int) (s : State) : Answer :=
  if !calReady s c then refuse .wrongState s
  else
    match (calOf s.store.work c).zCal with
    | none => refuse .wrongState s
    | some zCal =>
      let f := latestCount s c
      let d := f - zCal
      if ¬(1000 ≤ weight ∧ weight ≤ 60000000) then refuse .outOfRange s
      else if !countStable s c then refuse .notStable s
      else if d < 10000 ∨ 4294967295 < spanOf weight d then .reply .outOfRange (.calRefused f d) s
      else
        let span := (spanOf weight d).toNat
        .hold (.calSpanned span (s.store.audit + 1))
          (acceptChange (withCal s.store.work c { calOf s.store.work c with span := some span }) (calScope c) s)

/-- A calibration request names channel P or B, and passes the checks of R30 (R30, R33, R34). -/
def calRequest (channel : Option Chan) (judge : Chan → State → Answer) (s : State) : Answer :=
  match channel with
  | none => refuse .badRequest s
  | some c => admitChange (judge c) s

/-! ### The store write (R36) -/

/-- The audit area after a failed write: one that reads good with another count than the counter is kept with a bad CRC, so that the
counter, which survives every reset, never decreases (R35, R37; DEDUCED, log entry 38). -/
def keptAudit (count : Nat) (a : AuditArea) : AuditArea :=
  if readAudit a = none ∨ readAudit a = some count then a else spoiledAudit a

/-- The store after the read-back of a write (R36). -/
def writtenStore (readBack : NvAreas) (st : Store) : Store :=
  { st with
    writing := false
    current := decide (readBack = writtenAreas st.audit st.work)
    held := none
    nv := { readBack with audit := keptAudit st.audit readBack.audit } }

/-- The status of the held reply: OK after a success, STORE_FAULT after a failure (R36). -/
def writeStatus (st : Store) : Status := if st.current then .ok else .storeFault

/-- The held reply is placed; one discarded by a link reset is not (R36). -/
def placeHeld (held : Option HeldReply) (s : State) : State :=
  match held with
  | none => s
  | some h => placeReply ⟨h.code, h.tag, writeStatus s.store, h.body⟩ s

/-- The store write completes; with no write in flight nothing happens (R36). -/
def storeWriteComplete (readBack : NvAreas) (s : State) : State :=
  if s.store.writing then
    let t := s.setStore (writtenStore readBack s.store)
    placeHeld s.store.held (if t.store.current then t else latch .storeFault t)
  else s

/-! ### The commands -/

def execSealSwitchChange (high : Bool) (s : State) : Result := .next (sealSwitchChange high s)

def execCalZero (h : Header) (channel : Option Chan) (s : State) : Result :=
  .next (request h 0x0D (formed h (calRequest channel judgeCalZero)) s)

def execCalSpan (h : Header) (channel : Option Chan) (weight : Int) (s : State) : Result :=
  .next (request h 0x0E (formed h (calRequest channel fun c => judgeCalSpan c weight)) s)

def execStoreWriteComplete (readBack : NvAreas) (s : State) : Result := .next (storeWriteComplete readBack s)

end Sys2Proof.Machine
end

