-- ==== Sys2Proof/Machine/Params.lean ====
section
/-! DEFINITION. SET_PARAMETER and GET_PARAMETER (R207), with what each accepted parameter does in the event of its request (R6, R52,
R83, R117, R175, R176, R179, R181, R184, R189, R195, R197). -/

namespace Sys2Proof.Machine

/-! ### CHANNEL_ENABLE (R6) -/

/-- A channel disabled (R6). -/
def disabled (ch : Channel) : Channel :=
  { ch with
    state := .off, filter := [], counts := [], stability := [], stable := false, stableSince := none, reading := none
    aztStart := none, signalFault := false, goodRun := 0, silenceStart := none }

/-- A channel enabled in OFF (R6). -/
def enabled (valid : Bool) (now : Stamp) (ch : Channel) : Channel :=
  { ch with state := if valid then .filling else .uncalibrated, silenceStart := some now }

/-- The state change of a changed CHANNEL_ENABLE, offered and reported (R6, R10, R23, R90). -/
def switchChannel (c : Chan) (on : Bool) (s : State) : State :=
  let ch := s.chan c
  considerReport c (offerState c (s.setChan c
    (if on then enabled (calValid (calOf s.store.work c)) s.now ch else disabled ch)))

/-! ### Checks and effects of the other parameters -/

/-- The cross constraints of R176 with the units of a stepper claim that is made (R175, R176). -/
def claimFits (p : Params) (s : State) : Bool :=
  s.rail.stepper.phase == .none ||
  crossFits p.railCapacity p.drawerUnits p.cutterUnits s.rail.stepper.units p.dotCurrent

/-- The refusal of a rail parameter by its constraints, in the order of R175 and R176. -/
def railRefusal (p : Params) (s : State) : Option Status :=
  if !crossFits p.railCapacity p.drawerUnits p.cutterUnits p.stepperUnits p.dotCurrent then some .outOfRange
  else if !claimFits p s then some .busy
  else if p.railCapacity < s.rail.granted ∧ p.railCapacity ≠ s.params.railCapacity then some .busy
  else none

/-- The refusal of a parameter value that is within its own range; `p` is the parameter set with the new value (R176, R195). -/
def plainRefusal (name : ParamName) (p : Params) (s : State) : Option Status :=
  match name with
  | .railCapacity | .drawerUnits | .cutterUnits | .stepperUnits | .dotCurrent => railRefusal p s
  | .holdLightLine | .printerLightLine =>
    if p.holdLightLine.isSome ∧ p.holdLightLine = p.printerLightLine then some .outOfRange else none
  | _ => none

/-- What an accepted parameter does beyond taking its value; `before` is the state before the request. -/
def plainEffect (name : ParamName) (before s : State) : State :=
  match name with
  | .channelEnableP => switchChannel .P s.params.channelEnableP s
  | .channelEnableB => switchChannel .B s.params.channelEnableB s
  | .refLifetime => finishHold s .expectationGone (expireSlips (expireTickets s))
  | .placeTimeout => timeOutAll s
  | .railCapacity => ceffChanged s
  | .drawerPolarity => applyPolarity s
  | .drawerWait | .drawerPulse => s.setPgD (writeGen s.params.drawerWait s.params.drawerPulse s.pgD)
  | .drawerOpenLimit => openTooLong s
  | .drawerSensorPolarity => if s.drawer.level.isNone then s else judgeSensor before.sensorOpen s
  | .attendantCondition => noteAttendant before.attendant s
  | _ => s

/-- SET_PARAMETER on a parameter that is no metrology parameter, whose value in force is `current` (R207). -/
def setPlain (name : ParamName) (v current : Int) (s : State) : Answer :=
  if v = current then .reply .ok (.parameter name (.value v)) s
  else
    match plainSet name v s.params with
    | none => refuse .outOfRange s
    | some p =>
      match plainRefusal name p s with
      | some status => refuse status s
      | none => .reply .ok (.parameter name (.value v)) (plainEffect name s (s.setParams p))

/-- SET_PARAMETER; an unknown or read-only name is BAD_REQUEST (R29, R30, R177, R207). -/
def setParameterRequest (name : ParamName) (v : Int) (s : State) : Answer :=
  match settableValue name s with
  | none => refuse .badRequest s
  | some current =>
    if isMetrology name then admitChange (judgeParameter name v) s else setPlain name v current s

/-- GET_PARAMETER (R207). -/
def getParameterRequest (name : ParamName) (s : State) : Answer :=
  match paramValue name s with
  | none => refuse .badRequest s
  | some v => .reply .ok (.parameter name v) s

/-! ### The commands -/

def execSetParameter (h : Header) (name : ParamName) (value : Int) (s : State) : Result :=
  .next (request h 0x04 (formed h (setParameterRequest name value)) s)

def execGetParameter (h : Header) (name : ParamName) (s : State) : Result :=
  .next (request h 0x05 (formed h (getParameterRequest name)) s)

end Sys2Proof.Machine
end

