-- ==== Sys2Proof/Machine/PrintStream.lean ====
section
/-! DEFINITION. The print records: credit, form, tag, resolution and reference errors (chapter 8, R136 to R140; R127). A print
record is no request: it has no tag, no credit of a request and no reply. -/

namespace Sys2Proof.Machine

/-! ### Intake (R136, R137, R140) -/

/-- A record is discarded: its credit is returned, the event emitted and REFERENCE_ERROR latched (R136, R140). -/
def referenceError (code : Byte) (reference : Option Nat) (reason : ReferenceFault) (s : State) : State :=
  latch .referenceError (emit (.print (.referenceError code reference reason)) (addCredits 1 s))

/-- A malformed record (R136). -/
def malformed (code : Byte) (s : State) : State := referenceError code none .malformed s

/-- A print record arrives: its credit is judged before its form (R137). -/
def printRecord (judge : State → State) (s : State) : State :=
  if recordCount (frameTaken s).composer < 64 then judge (frameTaken s) else latch .intakeOverrun (frameTaken s)

/-- The tag of a record that arrives now (R137). -/
def printTag (r : Receipt) : Option Nat := if inSale r then r.number else none

/-- A record joins the Print Queue with its tag (R137, R138). -/
def joinRecord (content : PrintContent) (s : State) : State :=
  enqueue (.record content (printTag s.receipt)) s

/-! ### Resolution (R127, R139) -/

/-- The receipt context's record of a resolved reference (R127). -/
inductive Resolution where
  | weighed | void | card

/-- The receipt after a resolved reference: list and weighed subtotal (R127). -/
def resolvedReceipt (kind : Resolution) (reference price : Nat) (r : Receipt) : Receipt :=
  match kind with
  | .weighed => { r with tickets := r.tickets ++ [reference], subtotal := r.subtotal + price }
  | .void => { r with subtotal := r.subtotal - price }
  | .card => joinSlipList reference r

/-- The owner of a reference is asked (R50, R113). -/
def askOwner (kind : Resolution) (reference receipt : Nat) (s : State) : ReferenceAnswer :=
  match kind with
  | .weighed => attachTicket reference receipt s
  | .void => requestVoid reference receipt s
  | .card => attachCardLine reference receipt s

/-- The content of a resolved record (R139). -/
def resolvedContent (kind : Resolution) (reference : Nat) : PrintContent :=
  match kind with
  | .weighed => .weighed reference
  | .void => .void reference
  | .card => .card reference

/-- A record that names a ticket or slip is resolved, and joins only when the resolution succeeds (R127, R139, R140). -/
def resolveRecord (kind : Resolution) (code : Byte) (reference : Nat) (s : State) : State :=
  if inSale s.receipt then
    match askOwner kind reference (s.receipt.number.getD 0) s with
    | .resolved price t =>
      joinRecord (resolvedContent kind reference) (t.setReceipt (resolvedReceipt kind reference price t.receipt))
    | .failed reason => referenceError code (some reference) reason s
  else referenceError code (some reference) .noReceipt s

/-- A reference that is not carried is malformed (R136). -/
def referenceRecord (kind : Resolution) (code : Byte) (reference : Option Nat) (s : State) : State :=
  match reference with
  | none => malformed code s
  | some n => resolveRecord kind code n s

/-! ### The six kinds (R136) -/

/-- TEXT_LINE; a longer text is truncated to its first 48 characters (R136). -/
def textLine (text : Text) (doubleHeight centered otherBits : Bool) (s : State) : State :=
  if otherBits then malformed 0x21 s else joinRecord (.text (text.take 48) doubleHeight centered) s

/-- FEED (R136). -/
def feed (rows : Nat) (s : State) : State :=
  if 1 ≤ rows ∧ rows ≤ 255 then joinRecord (.feed rows) s else malformed 0x25 s

/-- CUT (R136). -/
def cut (kind : Option CutKind) (s : State) : State :=
  match kind with
  | none => malformed 0x26 s
  | some kind => joinRecord (.cut kind) s

/-! ### The commands -/

def execTextLine (text : Text) (doubleHeight centered otherBits : Bool) (s : State) : Result :=
  .next (printRecord (textLine text doubleHeight centered otherBits) s)

def execWeighedLine (ticket : Option Nat) (s : State) : Result :=
  .next (printRecord (referenceRecord .weighed 0x22 ticket) s)

def execVoidLine (ticket : Option Nat) (s : State) : Result :=
  .next (printRecord (referenceRecord .void 0x23 ticket) s)

def execCardLine (slip : Option Nat) (s : State) : Result :=
  .next (printRecord (referenceRecord .card 0x24 slip) s)

def execFeed (rows : Nat) (s : State) : Result := .next (printRecord (feed rows) s)

def execCut (kind : Option CutKind) (s : State) : Result := .next (printRecord (cut kind) s)

/-- A good frame on channel 4 with a code that is no request and no print record kind is a malformed record (R200, R136). -/
def execUnknownPrintCode (code : Byte) (s : State) : Result := .next (printRecord (malformed code) s)

end Sys2Proof.Machine
end

