-- ==== Sys2Proof/Machine/Resets.lean ====
section
/-! DEFINITION. LANE_RESET and the power-on reset (R208, R210, and the reset rules of every chapter). -/

namespace Sys2Proof.Machine

/-! ### Lane reset (R210) -/

/-- The Pricing Unit's part: the pending weighing ends without an event, the tickets go, the next number stays (R59). -/
def pricingLaneReset (s : State) : State :=
  s.setPricing { s.pricing with weighing := none, tickets := [], clearRequired := false }

/-- The scale channels' part: channel P's two tares go and its reading follows at once (R26, R16). -/
def scaleLaneReset (s : State) : State :=
  recompute .P (s.setChan .P { s.chanP with operatorTare := 0, itemTare := none })

/-- Every block's part of a lane reset; the Item Table acts with the receipt CLOSED, and ON_CHANGE reports are considered last (R23,
R26, R59, R75, R99, R120, R134, R150, R170, R182, R192). -/
def laneReset (s : State) : State :=
  let t := scaleLaneReset (pricingLaneReset s)
  let u := drawerLaneReset (mechLaneReset (composerLaneReset (cardLaneReset t)))
  let v := bagLaneReset (itemsLaneReset (receiptLaneReset u))
  considerReport .B (considerReport .P v)

/-- LANE_RESET, accepted in every state; the reply carries what the lane reset found (R134, R210). -/
def laneResetRequest (s : State) : Answer :=
  .reply .ok
    (.laneResetDone s.receipt.number s.receipt.state s.receipt.tickets.length s.receipt.slips.length
      s.receipt.tenders.length (tenderSum s.receipt))
    (laneReset s)

/-! ### Power-on reset (R37, R208) -/

/-- The nonvolatile areas after power is lost: the area a write in flight was writing has a bad CRC (R36). -/
def areasAfterLoss (stage : WriteStage) (st : Store) : NvAreas :=
  if st.writing then
    match stage with
    | .auditArea => ⟨spoiledAudit st.nv.audit, st.nv.metrology⟩
    | .metrologyArea => ⟨writtenAudit st.audit, spoiledMetrology st.nv.metrology⟩
    | .readBack => writtenAreas st.audit st.work
  else st.nv

/-- The Metrology Store after the power-on check of the areas (R37). -/
def checkedStore (nv : NvAreas) (serial : Nat) : Store where
  audit := (readAudit nv.audit).getD 65535
  work := (readMetrology nv.metrology).getD {}
  serial := serial
  current := (readAudit nv.audit).isSome && (readMetrology nv.metrology).isSome
  nv := nv

/-- The state of a channel at power-on, by its calibration record (R25, R37). -/
def startState (valid : Bool) : ChanState := if valid then .filling else .uncalibrated

/-- CAL_INVALID of a channel at power-on (R37). -/
def startConditions (c : Chan) (valid : Bool) : List Condition := if valid then [] else [.calInvalid c]

/-- The whole part at power-on, over a checked store (R208). The model's queue of waiting commands is no part of it. -/
def poweredState (st : Store) (pending : List Instr) : State where
  pending := pending
  store := st
  chanP := { state := startState (calValid st.work.calP) }
  chanB := { state := startState (calValid st.work.calB) }
  bag := { offered := { state := startState (calValid st.work.calB) } }
  latched := startConditions .P (calValid st.work.calP) ++ startConditions .B (calValid st.work.calB)

/-- Power-up or nRESET (R37, R208). -/
def powerOnReset (stage : WriteStage) (s : State) : State :=
  poweredState (checkedStore (areasAfterLoss stage s.store) s.store.serial) s.pending

/-! ### The commands -/

def execLaneReset (h : Header) (s : State) : Result :=
  .next (request h 0x0F (formed h laneResetRequest) s)

def execPowerOnReset (stage : WriteStage) (s : State) : Result := .next (powerOnReset stage s)

end Sys2Proof.Machine
end

