-- ==== Sys2Proof/WellFormed.lean ====
section
/-! DEFINITION. Which commands can occur: operands within the widths and forms the manual gives the message or event that carries
them. The meanings do not rely on it; values outside a range but within a width are judged by the meanings. -/

namespace Sys2Proof

/-- The name of a parameter as it travels (R207); an unknown name has none. -/
def paramSpelling : ParamName → String
  | .pMax => "P_MAX"
  | .pMax1 => "P_MAX1"
  | .pE1 => "P_E1"
  | .pE2 => "P_E2"
  | .bMax => "B_MAX"
  | .bE => "B_E"
  | .filterLenP => "FILTER_LEN_P"
  | .filterLenB => "FILTER_LEN_B"
  | .stabWindow => "STAB_WINDOW"
  | .stabBand => "STAB_BAND"
  | .aztEnable => "AZT_ENABLE"
  | .priceStep => "PRICE_STEP"
  | .channelEnableP => "CHANNEL_ENABLE_P"
  | .channelEnableB => "CHANNEL_ENABLE_B"
  | .refLifetime => "REF_LIFETIME"
  | .bagSettle => "BAG_SETTLE"
  | .bagThreshold => "BAG_THRESHOLD"
  | .bagTolAbs => "BAG_TOL_ABS"
  | .bagTolPct => "BAG_TOL_PCT"
  | .placeTimeout => "PLACE_TIMEOUT"
  | .cardAttempts => "CARD_ATTEMPTS"
  | .cardArmTimeout => "CARD_ARM_TIMEOUT"
  | .stepperUnits => "STEPPER_UNITS"
  | .cutterUnits => "CUTTER_UNITS"
  | .dotCurrent => "DOT_CURRENT"
  | .strobeDots => "STROBE_DOTS"
  | .headSettle => "HEAD_SETTLE"
  | .heatTime1 => "HEAT_TIME_1"
  | .heatTime2 => "HEAT_TIME_2"
  | .heatTime3 => "HEAT_TIME_3"
  | .heatTime4 => "HEAT_TIME_4"
  | .heatTime5 => "HEAT_TIME_5"
  | .stepPeriod => "STEP_PERIOD"
  | .railCapacity => "RAIL_CAPACITY"
  | .railLowLimit => "RAIL_LOW_LIMIT"
  | .drawerUnits => "DRAWER_UNITS"
  | .drawerPolarity => "DRAWER_POLARITY"
  | .drawerRetries => "DRAWER_RETRIES"
  | .drawerWait => "DRAWER_WAIT"
  | .drawerPulse => "DRAWER_PULSE"
  | .drawerConfirm => "DRAWER_CONFIRM"
  | .drawerOpenLimit => "DRAWER_OPEN_LIMIT"
  | .drawerSensorPolarity => "DRAWER_SENSOR_POLARITY"
  | .closeBeforeSale => "CLOSE_BEFORE_SALE"
  | .holdLightLine => "HOLD_LIGHT_LINE"
  | .printerLightLine => "PRINTER_LIGHT_LINE"
  | .attendantCondition => "ATTENDANT_CONDITION"
  | .sealState => "SEAL_STATE"
  | .railState => "RAIL_STATE"
  | .unknown _ => ""

/-- The names SET_PARAMETER and GET_PARAMETER know. -/
def knownNames : List ParamName :=
  [.pMax, .pMax1, .pE1, .pE2, .bMax, .bE, .filterLenP, .filterLenB, .stabWindow, .stabBand, .aztEnable, .priceStep,
   .channelEnableP, .channelEnableB, .refLifetime, .bagSettle, .bagThreshold, .bagTolAbs, .bagTolPct, .placeTimeout,
   .cardAttempts, .cardArmTimeout, .stepperUnits, .cutterUnits, .dotCurrent, .strobeDots, .headSettle, .heatTime1,
   .heatTime2, .heatTime3, .heatTime4, .heatTime5, .stepPeriod, .railCapacity, .railLowLimit, .drawerUnits,
   .drawerPolarity, .drawerRetries, .drawerWait, .drawerPulse, .drawerConfirm, .drawerOpenLimit,
   .drawerSensorPolarity, .closeBeforeSale, .holdLightLine, .printerLightLine, .attendantCondition, .sealState,
   .railState]

/-- A text is the name of a parameter. -/
def isKnownName (text : Text) : Bool :=
  knownNames.any fun n => (paramSpelling n).toList.map (fun c => BitVec.ofNat 8 c.toNat) == text

/-- A name is no name the manual knows when it is given as unknown. -/
def nameFits : ParamName → Bool
  | .unknown text => decide (text.length ≤ 256) && !isKnownName text
  | _ => true

/-- A signed 32-bit integer (00_scope section 5.1, R207). -/
def fits32 (v : Int) : Bool := decide (-2147483648 ≤ v ∧ v ≤ 2147483647)

def fits32? : Option Int → Bool
  | none => true
  | some v => fits32 v

/-- An unsigned number of at most 32 bits. -/
def fitsWord (n : Nat) : Bool := decide (n < 2 ^ 32)

def fitsWord? : Option Nat → Bool
  | none => true
  | some n => fitsWord n

/-- A signed 24-bit converter count (section 1.2). -/
def fits24 (v : Int) : Bool := decide (-8388608 ≤ v ∧ v ≤ 8388607)

/-- A text within a downstream payload of 256 bytes (R199). -/
def textFits (t : Text) : Bool := decide (t.length ≤ 256)

/-- The fields of an entry as they stand in a STAGE_ENTRIES payload (section 12.9.3). -/
def entryFits (e : ItemEntry) : Bool :=
  fitsWord e.code && fitsWord e.price && fits32? e.presetTare && fits32? e.bagWeight && fits32? e.bagTolerance &&
  decide (e.description.length ≤ 255)

/-- The bytes of an entry in the compact form of STAGE_ENTRIES (section 12.9.3). -/
def compactSize (e : ItemEntry) : Nat :=
  12 + (if e.presetTare.isSome then 4 else 0) + (if e.bagWeight.isSome then 4 else 0) +
  (if e.bagTolerance.isSome then 4 else 0) + e.description.length

/-- The entries fit a payload of 256 bytes behind their count byte (section 12.9.3). -/
def entriesFit (entries : List ItemEntry) : Bool :=
  entries.all entryFits && decide (1 + (entries.map compactSize).sum ≤ 256)

/-- A report mode whose n is a number of at most 32 bits. -/
def modeFits : Option ReportMode → Bool
  | some (.periodic n) => fitsWord n
  | _ => true

/-- The number of request codes of a channel (R201). -/
def requestCodes (channel : Byte) : Nat :=
  if channel = 0 then 19 else if channel = 1 then 10 else if channel = 2 then 5 else if channel = 3 then 3
  else if channel = 4 then 6 else if channel = 5 then 2 else 0

/-- A code that is a request of the channel (R201). -/
def isRequestCode (channel code : Byte) : Bool := decide (1 ≤ code.toNat ∧ code.toNat ≤ requestCodes channel)

/-- A code that is a print record kind (R201). -/
def isPrintCode (code : Byte) : Bool := decide (0x21 ≤ code.toNat ∧ code.toNat ≤ 0x26)

/-- What the read-back of a store write can give: a counter of 16 bits (R28). -/
def areasFit (nv : NvAreas) : Bool := decide (nv.audit.count ≤ 65535)

/-- The length byte of a framing error is above 120 (R102). -/
def recordFaultFits : RecordFault → Bool
  | .longLength v => decide (120 < v.toNat)
  | .stopBitLow | .badCheck _ => true

/-- A command that can occur. -/
def Instr.wf : Instr → Bool
  | .unknownCodeRequest channel _ code => channel != 4 && !isRequestCode channel code
  | .setParameter _ name value => nameFits name && fits32 value
  | .getParameter _ name => nameFits name
  | .stageEntries _ entries => entriesFit entries
  | .stageDelete _ codes => codes.all fitsWord && decide (codes.length ≤ 64)
  | .stageSeal _ count _ => fitsWord count
  | .tableQuery _ code => fitsWord code
  | .calSpan _ _ weight => fits32 weight
  | .storeWriteComplete readBack => areasFit readBack
  | .tarePreset _ _ value => fits32 value
  | .weighItem _ code => fitsWord code
  | .weighItemInline _ price _ description => fits32 price && textFits description
  | .ticketVoid _ number => fitsWord number
  | .ticketQuery _ number => fitsWord number
  | .reportMode _ _ mode => modeFits mode
  | .sampleArrival _ count => fits24 count
  | .ticketExpired number => fitsWord number
  | .expect _ item weight tolerance => fitsWord? item && fits32? weight && fits32? tolerance
  | .expectNone _ code => fitsWord code
  | .expectCancel _ id => fitsWord id
  | .placeTimeout id => fitsWord id
  | .slipDiscard _ id => fitsWord id
  | .slipExpired id => fitsWord id
  | .framingError cause => recordFaultFits cause
  | .openReceipt _ number => fitsWord number
  | .tender _ _ amount slip => fits32 amount && fitsWord? slip
  | .closeReceipt _ subtotal _ => fits32 subtotal
  | .textLine text _ _ _ => textFits text
  | .weighedLine ticket => fitsWord? ticket
  | .voidLine ticket => fitsWord? ticket
  | .cardLine slip => fitsWord? slip
  | .feed rows => fitsWord rows
  | .headTemperatureSample celsius => fits32 celsius
  | .railVoltageSample tenths => fitsWord tenths
  | .unknownPrintCode code => !isRequestCode 4 code && !isPrintCode code
  | .powerOnReset _ | .linkReset | .badFrame _ | .upstreamFrameBuild | .identify _ | .linkStatus _
  | .readConditions _ _ | .stageBegin _ _ | .stageCommit _ | .stageAbandon _ | .calZero _ _ | .laneReset _
  | .laneMode _ _ | .linesConfigDirections _ _ | .linesConfigCondition _ _ _ _ _ | .linesWrite _ _ _ | .linesRead _
  | .zero _ _ | .tare _ _ | .tareClear _ _ | .weighCancel _ | .lock _ | .silenceExpiry _ | .periodicReport _
  | .sealSwitchChange _ | .override _ | .bagStatus _ | .lightPhaseToggle | .cardArm _ | .cardDisarm _
  | .recordStart | .swipe | .chip | .removed | .fault | .recordTimeout | .armTimeout | .cardForwarding
  | .abandonReceipt _ | .printResume _ | .printStatus _ | .cut _ | .composeItem | .claimGrant | .pulseBegin _
  | .pulseEnd _ | .paperStep | .releaseMeasureExpiry | .paperOutSensor _ | .coverOpenSensor _ | .nearEndSensor _
  | .cutterHome _ | .cutterJam | .drawerRelease _ | .drawerStatus _ | .drawerSensorChange _ | .confirmTimeout
  | .openTooLong | .lineInputChange _ _ | .downstreamByte _ _ | .readerCharacter _ | .unknownKindRecord => true

end Sys2Proof
end

