-- ==== Sys2Proof/Machine/Frames.lean ====
section
/-! DEFINITION. Good downstream frames: the message a frame's bytes are, its dispatch to its channel handler, and the character that
ends it (chapter 12, R199 to R201; sections 12.9.1 and 12.9.3). -/

namespace Sys2Proof.Machine

/-! ### The STAGE_ENTRIES payload (section 12.9.3) -/

/-- An optional weight field of a compact entry: left out when absent. -/
def optionalBytes (w : Option Int) : List Byte :=
  match w with
  | none => []
  | some v => bytesOf 4 (word32 v)

/-- A compact entry: the fields of the 48-byte serialization, with absent optional fields left out and the description carried for its
length alone. -/
def compactEntry (e : ItemEntry) : List Byte :=
  bytesOf 4 e.code ++ bytesOf 4 e.price ++
  [basisByte e.basis, flagByte [e.autoLock, e.attendantOnly],
   flagByte [e.presetTare.isSome, e.bagWeight.isSome, e.bagTolerance.isSome],
   BitVec.ofNat 8 e.description.length] ++
  optionalBytes e.presetTare ++ optionalBytes e.bagWeight ++ optionalBytes e.bagTolerance ++ e.description

/-- The payload of STAGE_ENTRIES: one count byte and the compact entries. -/
def entriesPayload (entries : List ItemEntry) : List Byte :=
  BitVec.ofNat 8 entries.length :: entries.flatMap compactEntry

/-- The first `n` bytes of a payload as a field, and the bytes behind it; none where fewer are left. -/
def takeField (n : Nat) (bytes : List Byte) : Option (List Byte × List Byte) :=
  if n ≤ bytes.length then some (bytes.take n, bytes.drop n) else none

/-- An optional weight field, when its presence bit says it is carried. -/
def takeOptional (present : Bool) (bytes : List Byte) : Option (Option Int × List Byte) :=
  if present then (takeField 4 bytes).map fun p => (some (signedField p.1), p.2) else some (none, bytes)

/-- The basis of a basis byte. -/
def basisFrom (b : Byte) : Option Basis :=
  if b = 0x01 then some .perKg else if b = 0x02 then some .per100g else none

/-- A compact entry at the front of the bytes, and the bytes behind it; none where the bytes are not in the form of an entry: too few, a
basis byte that is neither basis, or a bit set outside the defined bits of the flags or the presence byte (R200). -/
def takeEntry (bytes : List Byte) : Option (ItemEntry × List Byte) := do
  let (head, rest) ← takeField 12 bytes
  let basis ← basisFrom (head.getD 8 0)
  let flags := head.getD 9 0
  let presence := head.getD 10 0
  if flags &&& 0xFC ≠ 0 ∨ presence &&& 0xF8 ≠ 0 then none
  else do
    let (presetTare, rest) ← takeOptional (presence.getLsbD 0) rest
    let (bagWeight, rest) ← takeOptional (presence.getLsbD 1) rest
    let (bagTolerance, rest) ← takeOptional (presence.getLsbD 2) rest
    let (description, rest) ← takeField (head.getD 11 0).toNat rest
    some
      ({ code := fieldOf (head.take 4), price := fieldOf ((head.drop 4).take 4), basis := basis
         autoLock := flags.getLsbD 0, attendantOnly := flags.getLsbD 1, presetTare := presetTare
         bagWeight := bagWeight, bagTolerance := bagTolerance, description := description }, rest)

/-- `n` compact entries and nothing behind them. -/
def takeEntries : Nat → List Byte → Option (List ItemEntry)
  | 0, bytes => if bytes.isEmpty then some [] else none
  | n + 1, bytes =>
    match takeEntry bytes with
    | none => none
    | some (e, rest) => (takeEntries n rest).map fun l => e :: l

/-- The entries of a STAGE_ENTRIES payload; none where it is not in the layout of section 12.9.3 (R200). -/
def readEntries (payload : List Byte) : Option (List ItemEntry) :=
  match payload with
  | [] => none
  | count :: rest => takeEntries count.toNat rest

/-! ### The messages of a channel (R201)

A request without fields carries them when its payload is empty (DEDUCED, log entry 48). Where a rule names fields, what the payload
carries is `Config.payloadFields`, but for STAGE_ENTRIES (log entry 3). -/

/-- A request with its fields; malformed where its payload does not carry them (R200). -/
def carrying {α : Type} (channel tag code : Byte) (payload : List Byte) (blank : α) (make : Header → α → Instr) : Instr :=
  match Config.payloadFields α channel code payload with
  | some x => if (make ⟨tag, true⟩ x).wf then make ⟨tag, true⟩ x else make ⟨tag, false⟩ blank
  | none => make ⟨tag, false⟩ blank

/-- STAGE_ENTRIES, read by its layout (R200, section 12.9.3). -/
def entriesMessage (tag : Byte) (payload : List Byte) : Instr :=
  match readEntries payload with
  | some entries => .stageEntries ⟨tag, true⟩ entries
  | none => .stageEntries ⟨tag, false⟩ []

/-- Channel 0, MGT. -/
def managementMessage (tag code : Byte) (payload : List Byte) : Instr :=
  let bare : Header := ⟨tag, payload.isEmpty⟩
  match code.toNat with
  | 0x01 => .identify bare
  | 0x02 => .linkStatus bare
  | 0x03 => carrying 0 tag code payload (none : Option Block) .readConditions
  | 0x04 => carrying 0 tag code payload (ParamName.sealState, (0 : Int)) fun h x => .setParameter h x.1 x.2
  | 0x05 => carrying 0 tag code payload ParamName.sealState .getParameter
  | 0x06 => carrying 0 tag code payload (none : Option StageMode) .stageBegin
  | 0x07 => entriesMessage tag payload
  | 0x08 => carrying 0 tag code payload ([] : List Nat) .stageDelete
  | 0x09 => carrying 0 tag code payload ((0 : Nat), (0 : BitVec 32)) fun h x => .stageSeal h x.1 x.2
  | 0x0A => .stageCommit bare
  | 0x0B => .stageAbandon bare
  | 0x0C => carrying 0 tag code payload (0 : Nat) .tableQuery
  | 0x0D => carrying 0 tag code payload (none : Option Chan) .calZero
  | 0x0E => carrying 0 tag code payload ((none : Option Chan), (0 : Int)) fun h x => .calSpan h x.1 x.2
  | 0x0F => .laneReset bare
  | 0x10 => carrying 0 tag code payload (none : Option LaneMode) .laneMode
  | 0x11 =>
    carrying 0 tag code payload (Sum.inl 0 : BitVec 8 ⊕ (Option (Fin 4) × BitVec 8 × BitVec 8 × Option Sense)) fun h x =>
      match x with
      | .inl directions => .linesConfigDirections h directions
      | .inr (condition, mask, pattern, sense) => .linesConfigCondition h condition mask pattern sense
  | 0x12 => carrying 0 tag code payload ((0 : BitVec 8), (0 : BitVec 8)) fun h x => .linesWrite h x.1 x.2
  | 0x13 => .linesRead bare
  | _ => .unknownCodeRequest 0 tag code

/-- Channel 1, SCL. -/
def scaleMessage (tag code : Byte) (payload : List Byte) : Instr :=
  let bare : Header := ⟨tag, payload.isEmpty⟩
  match code.toNat with
  | 0x01 => carrying 1 tag code payload (none : Option Chan) .zero
  | 0x02 => carrying 1 tag code payload (none : Option Chan) .tare
  | 0x03 => carrying 1 tag code payload ((none : Option Chan), (0 : Int)) fun h x => .tarePreset h x.1 x.2
  | 0x04 => carrying 1 tag code payload (none : Option Chan) .tareClear
  | 0x05 =>
    carrying 1 tag code payload (Sum.inl 0 : Nat ⊕ (Int × Option Basis × Text)) fun h x =>
      match x with
      | .inl item => .weighItem h item
      | .inr (price, basis, description) => .weighItemInline h price basis description
  | 0x06 => .weighCancel bare
  | 0x07 => .lock bare
  | 0x08 => carrying 1 tag code payload (0 : Nat) .ticketVoid
  | 0x09 => carrying 1 tag code payload (0 : Nat) .ticketQuery
  | 0x0A =>
    carrying 1 tag code payload ((none : Option Chan), (none : Option ReportMode)) fun h x => .reportMode h x.1 x.2
  | _ => .unknownCodeRequest 1 tag code

/-- Channel 2, BAG. -/
def baggingMessage (tag code : Byte) (payload : List Byte) : Instr :=
  let bare : Header := ⟨tag, payload.isEmpty⟩
  match code.toNat with
  | 0x01 =>
    carrying 2 tag code payload ((none : Option Nat), (none : Option Int), (none : Option Int)) fun h x =>
      .expect h x.1 x.2.1 x.2.2
  | 0x02 => carrying 2 tag code payload (0 : Nat) .expectNone
  | 0x03 => carrying 2 tag code payload (0 : Nat) .expectCancel
  | 0x04 => .override bare
  | 0x05 => .bagStatus bare
  | _ => .unknownCodeRequest 2 tag code

/-- Channel 3, CRD. -/
def cardMessage (tag code : Byte) (payload : List Byte) : Instr :=
  let bare : Header := ⟨tag, payload.isEmpty⟩
  match code.toNat with
  | 0x01 => .cardArm bare
  | 0x02 => .cardDisarm bare
  | 0x03 => carrying 3 tag code payload (0 : Nat) .slipDiscard
  | _ => .unknownCodeRequest 3 tag code

/-- A print record with its fields; malformed where its payload does not carry them (R136). -/
def recordFields {α : Type} (code : Byte) (payload : List Byte) (blank : Instr) (make : α → Instr) : Instr :=
  match Config.payloadFields α 4 code payload with
  | some x => if (make x).wf then make x else blank
  | none => blank

/-- Channel 4, RCT: requests, and print records, whose tag is ignored (R136, R137). -/
def receiptMessage (tag code : Byte) (payload : List Byte) : Instr :=
  match code.toNat with
  | 0x01 => carrying 4 tag code payload (0 : Nat) .openReceipt
  | 0x02 =>
    carrying 4 tag code payload ((none : Option TenderKind), (0 : Int), (none : Option Nat)) fun h x =>
      .tender h x.1 x.2.1 x.2.2
  | 0x03 => carrying 4 tag code payload ((0 : Int), (none : Option CutKind)) fun h x => .closeReceipt h x.1 x.2
  | 0x04 => .abandonReceipt ⟨tag, payload.isEmpty⟩
  | 0x05 => .printResume ⟨tag, payload.isEmpty⟩
  | 0x06 => .printStatus ⟨tag, payload.isEmpty⟩
  | 0x21 =>
    recordFields code payload (.textLine [] false false true) fun (x : Text × Bool × Bool × Bool) =>
      .textLine x.1 x.2.1 x.2.2.1 x.2.2.2
  | 0x22 => recordFields code payload (.weighedLine none) fun (n : Nat) => .weighedLine (some n)
  | 0x23 => recordFields code payload (.voidLine none) fun (n : Nat) => .voidLine (some n)
  | 0x24 => recordFields code payload (.cardLine none) fun (n : Nat) => .cardLine (some n)
  | 0x25 => recordFields code payload (.feed 0) .feed
  | 0x26 => recordFields code payload (.cut none) fun (k : CutKind) => .cut (some k)
  | _ => .unknownPrintCode code

/-- Channel 5, DRW. -/
def drawerMessage (tag code : Byte) (payload : List Byte) : Instr :=
  match code.toNat with
  | 0x01 => .drawerRelease ⟨tag, payload.isEmpty⟩
  | 0x02 => .drawerStatus ⟨tag, payload.isEmpty⟩
  | _ => .unknownCodeRequest 5 tag code

/-- The message of a channel, tag, code and payload (R200, R201). -/
def readMessage (channel tag code : Byte) (payload : List Byte) : Instr :=
  match channel.toNat with
  | 0 => managementMessage tag code payload
  | 1 => scaleMessage tag code payload
  | 2 => baggingMessage tag code payload
  | 3 => cardMessage tag code payload
  | 4 => receiptMessage tag code payload
  | 5 => drawerMessage tag code payload
  | _ => .unknownCodeRequest channel tag code

/-- The message of a good frame's bytes (R200, section 12.9.1). -/
def frameMessage (bytes : List Byte) : Instr :=
  readMessage (bytes.getD 0 0) (bytes.getD 1 0) (bytes.getD 2 0) (framePayload bytes)

/-! ### Dispatch (R200) -/

/-- A message is handed to its channel handler, which takes it in this event (R200). -/
def runMessage (i : Instr) (s : State) : Result :=
  match i with
  | .unknownCodeRequest channel tag code => execUnknownCodeRequest channel tag code s
  | .identify h => execIdentify h s
  | .linkStatus h => execLinkStatus h s
  | .readConditions h block => execReadConditions h block s
  | .setParameter h name value => execSetParameter h name value s
  | .getParameter h name => execGetParameter h name s
  | .stageBegin h mode => execStageBegin h mode s
  | .stageEntries h entries => execStageEntries h entries s
  | .stageDelete h codes => execStageDelete h codes s
  | .stageSeal h count crc => execStageSeal h count crc s
  | .stageCommit h => execStageCommit h s
  | .stageAbandon h => execStageAbandon h s
  | .tableQuery h code => execTableQuery h code s
  | .calZero h channel => execCalZero h channel s
  | .calSpan h channel weight => execCalSpan h channel weight s
  | .laneReset h => execLaneReset h s
  | .laneMode h mode => execLaneMode h mode s
  | .linesConfigDirections h directions => execLinesConfigDirections h directions s
  | .linesConfigCondition h condition mask pattern sense => execLinesConfigCondition h condition mask pattern sense s
  | .linesWrite h mode data => execLinesWrite h mode data s
  | .linesRead h => execLinesRead h s
  | .zero h channel => execZero h channel s
  | .tare h channel => execTare h channel s
  | .tarePreset h channel value => execTarePreset h channel value s
  | .tareClear h channel => execTareClear h channel s
  | .weighItem h code => execWeighItem h code s
  | .weighItemInline h price basis description => execWeighItemInline h price basis description s
  | .weighCancel h => execWeighCancel h s
  | .lock h => execLock h s
  | .ticketVoid h number => execTicketVoid h number s
  | .ticketQuery h number => execTicketQuery h number s
  | .reportMode h channel mode => execReportMode h channel mode s
  | .expect h item weight tolerance => execExpect h item weight tolerance s
  | .expectNone h code => execExpectNone h code s
  | .expectCancel h id => execExpectCancel h id s
  | .override h => execOverride h s
  | .bagStatus h => execBagStatus h s
  | .cardArm h => execCardArm h s
  | .cardDisarm h => execCardDisarm h s
  | .slipDiscard h id => execSlipDiscard h id s
  | .openReceipt h number => execOpenReceipt h number s
  | .tender h kind amount slip => execTender h kind amount slip s
  | .closeReceipt h subtotal cut => execCloseReceipt h subtotal cut s
  | .abandonReceipt h => execAbandonReceipt h s
  | .printResume h => execPrintResume h s
  | .printStatus h => execPrintStatus h s
  | .textLine text doubleHeight centered otherBits => execTextLine text doubleHeight centered otherBits s
  | .weighedLine ticket => execWeighedLine ticket s
  | .voidLine ticket => execVoidLine ticket s
  | .cardLine slip => execCardLine slip s
  | .feed rows => execFeed rows s
  | .cut kind => execCut kind s
  | .drawerRelease h => execDrawerRelease h s
  | .drawerStatus h => execDrawerStatus h s
  | .unknownPrintCode code => execUnknownPrintCode code s
  | .powerOnReset _ | .linkReset | .badFrame _ | .upstreamFrameBuild | .storeWriteComplete _ | .sampleArrival _ _
  | .silenceExpiry _ | .periodicReport _ | .sealSwitchChange _ | .ticketExpired _ | .placeTimeout _
  | .lightPhaseToggle | .recordStart | .swipe | .chip | .removed | .fault | .framingError _ | .recordTimeout
  | .armTimeout | .cardForwarding | .slipExpired _ | .composeItem | .claimGrant | .pulseBegin _ | .pulseEnd _
  | .paperStep | .releaseMeasureExpiry | .headTemperatureSample _ | .paperOutSensor _ | .coverOpenSensor _
  | .nearEndSensor _ | .cutterHome _ | .cutterJam | .railVoltageSample _ | .drawerSensorChange _ | .confirmTimeout
  | .openTooLong | .lineInputChange _ _ | .downstreamByte _ _ | .readerCharacter _ | .unknownKindRecord =>
    .next s  -- no message is one of these

/-- A flag in FRAME: fill with no bytes held, else the bytes held are the frame, dispatched when it is good (R199, R200). -/
def endingFlag (s : State) : Result :=
  if s.link.receiver.escape then .next (discardToHunt s)
  else if s.link.receiver.bytes.isEmpty then .next s
  else if goodFrame s.link.receiver.bytes then runMessage (frameMessage s.link.receiver.bytes) s
  else .next (discardFrame s)

/-! ### The command -/

/-- A character arrives on LL_RXD (R199, R200). -/
def execDownstreamByte (value : Byte) (stopHigh : Bool) (s : State) : Result :=
  match s.link.receiver.phase with
  | .hunt => .next (if stopHigh ∧ value = 0x7E then frameTaken s else s)
  | .frame =>
    if !stopHigh then .next (discardToHunt s)
    else if value = 0x7E then endingFlag s
    else .next (frameByte value s)

end Sys2Proof.Machine
end

