-- ==== Sys2Proof/Machine/Dispatch.lean ====
section
/-! DEFINITION. The dispatch: one arm per command, each one direct call of its meaning. -/

namespace Sys2Proof.Machine

def exec (i : Instr) (s : State) : Host.Outcome State Fault Refusal :=
  match i with
  | .powerOnReset stage => Sys2Proof.Machine.execPowerOnReset stage s
  | .linkReset => Sys2Proof.Machine.execLinkReset s
  | .badFrame cause => Sys2Proof.Machine.execBadFrame cause s
  | .unknownCodeRequest channel tag code => Sys2Proof.Machine.execUnknownCodeRequest channel tag code s
  | .upstreamFrameBuild => Sys2Proof.Machine.execUpstreamFrameBuild s
  | .identify h => Sys2Proof.Machine.execIdentify h s
  | .linkStatus h => Sys2Proof.Machine.execLinkStatus h s
  | .readConditions h block => Sys2Proof.Machine.execReadConditions h block s
  | .setParameter h name value => Sys2Proof.Machine.execSetParameter h name value s
  | .getParameter h name => Sys2Proof.Machine.execGetParameter h name s
  | .stageBegin h mode => Sys2Proof.Machine.execStageBegin h mode s
  | .stageEntries h entries => Sys2Proof.Machine.execStageEntries h entries s
  | .stageDelete h codes => Sys2Proof.Machine.execStageDelete h codes s
  | .stageSeal h count crc => Sys2Proof.Machine.execStageSeal h count crc s
  | .stageCommit h => Sys2Proof.Machine.execStageCommit h s
  | .stageAbandon h => Sys2Proof.Machine.execStageAbandon h s
  | .tableQuery h code => Sys2Proof.Machine.execTableQuery h code s
  | .calZero h channel => Sys2Proof.Machine.execCalZero h channel s
  | .calSpan h channel weight => Sys2Proof.Machine.execCalSpan h channel weight s
  | .storeWriteComplete readBack => Sys2Proof.Machine.execStoreWriteComplete readBack s
  | .laneReset h => Sys2Proof.Machine.execLaneReset h s
  | .laneMode h mode => Sys2Proof.Machine.execLaneMode h mode s
  | .linesConfigDirections h directions => Sys2Proof.Machine.execLinesConfigDirections h directions s
  | .linesConfigCondition h condition mask pattern sense => Sys2Proof.Machine.execLinesConfigCondition h condition mask pattern sense s
  | .linesWrite h mode data => Sys2Proof.Machine.execLinesWrite h mode data s
  | .linesRead h => Sys2Proof.Machine.execLinesRead h s
  | .zero h channel => Sys2Proof.Machine.execZero h channel s
  | .tare h channel => Sys2Proof.Machine.execTare h channel s
  | .tarePreset h channel value => Sys2Proof.Machine.execTarePreset h channel value s
  | .tareClear h channel => Sys2Proof.Machine.execTareClear h channel s
  | .weighItem h code => Sys2Proof.Machine.execWeighItem h code s
  | .weighItemInline h price basis description => Sys2Proof.Machine.execWeighItemInline h price basis description s
  | .weighCancel h => Sys2Proof.Machine.execWeighCancel h s
  | .lock h => Sys2Proof.Machine.execLock h s
  | .ticketVoid h number => Sys2Proof.Machine.execTicketVoid h number s
  | .ticketQuery h number => Sys2Proof.Machine.execTicketQuery h number s
  | .reportMode h channel mode => Sys2Proof.Machine.execReportMode h channel mode s
  | .sampleArrival channel count => Sys2Proof.Machine.execSampleArrival channel count s
  | .silenceExpiry channel => Sys2Proof.Machine.execSilenceExpiry channel s
  | .periodicReport channel => Sys2Proof.Machine.execPeriodicReport channel s
  | .sealSwitchChange high => Sys2Proof.Machine.execSealSwitchChange high s
  | .ticketExpired number => Sys2Proof.Machine.execTicketExpired number s
  | .expect h item weight tolerance => Sys2Proof.Machine.execExpect h item weight tolerance s
  | .expectNone h code => Sys2Proof.Machine.execExpectNone h code s
  | .expectCancel h id => Sys2Proof.Machine.execExpectCancel h id s
  | .override h => Sys2Proof.Machine.execOverride h s
  | .bagStatus h => Sys2Proof.Machine.execBagStatus h s
  | .placeTimeout id => Sys2Proof.Machine.execPlaceTimeout id s
  | .lightPhaseToggle => Sys2Proof.Machine.execLightPhaseToggle s
  | .cardArm h => Sys2Proof.Machine.execCardArm h s
  | .cardDisarm h => Sys2Proof.Machine.execCardDisarm h s
  | .slipDiscard h id => Sys2Proof.Machine.execSlipDiscard h id s
  | .recordStart => Sys2Proof.Machine.execRecordStart s
  | .swipe => Sys2Proof.Machine.execSwipe s
  | .chip => Sys2Proof.Machine.execChip s
  | .removed => Sys2Proof.Machine.execRemoved s
  | .fault => Sys2Proof.Machine.execFault s
  | .framingError cause => Sys2Proof.Machine.execFramingError cause s
  | .recordTimeout => Sys2Proof.Machine.execRecordTimeout s
  | .armTimeout => Sys2Proof.Machine.execArmTimeout s
  | .cardForwarding => Sys2Proof.Machine.execCardForwarding s
  | .slipExpired id => Sys2Proof.Machine.execSlipExpired id s
  | .openReceipt h number => Sys2Proof.Machine.execOpenReceipt h number s
  | .tender h kind amount slip => Sys2Proof.Machine.execTender h kind amount slip s
  | .closeReceipt h subtotal cut => Sys2Proof.Machine.execCloseReceipt h subtotal cut s
  | .abandonReceipt h => Sys2Proof.Machine.execAbandonReceipt h s
  | .printResume h => Sys2Proof.Machine.execPrintResume h s
  | .printStatus h => Sys2Proof.Machine.execPrintStatus h s
  | .textLine text doubleHeight centered otherBits => Sys2Proof.Machine.execTextLine text doubleHeight centered otherBits s
  | .weighedLine ticket => Sys2Proof.Machine.execWeighedLine ticket s
  | .voidLine ticket => Sys2Proof.Machine.execVoidLine ticket s
  | .cardLine slip => Sys2Proof.Machine.execCardLine slip s
  | .feed rows => Sys2Proof.Machine.execFeed rows s
  | .cut kind => Sys2Proof.Machine.execCut kind s
  | .composeItem => Sys2Proof.Machine.execComposeItem s
  | .claimGrant => Sys2Proof.Machine.execClaimGrant s
  | .pulseBegin gen => Sys2Proof.Machine.execPulseBegin gen s
  | .pulseEnd gen => Sys2Proof.Machine.execPulseEnd gen s
  | .paperStep => Sys2Proof.Machine.execPaperStep s
  | .releaseMeasureExpiry => Sys2Proof.Machine.execReleaseMeasureExpiry s
  | .headTemperatureSample celsius => Sys2Proof.Machine.execHeadTemperatureSample celsius s
  | .paperOutSensor active => Sys2Proof.Machine.execPaperOutSensor active s
  | .coverOpenSensor active => Sys2Proof.Machine.execCoverOpenSensor active s
  | .nearEndSensor active => Sys2Proof.Machine.execNearEndSensor active s
  | .cutterHome home => Sys2Proof.Machine.execCutterHome home s
  | .cutterJam => Sys2Proof.Machine.execCutterJam s
  | .railVoltageSample tenths => Sys2Proof.Machine.execRailVoltageSample tenths s
  | .drawerRelease h => Sys2Proof.Machine.execDrawerRelease h s
  | .drawerStatus h => Sys2Proof.Machine.execDrawerStatus h s
  | .drawerSensorChange high => Sys2Proof.Machine.execDrawerSensorChange high s
  | .confirmTimeout => Sys2Proof.Machine.execConfirmTimeout s
  | .openTooLong => Sys2Proof.Machine.execOpenTooLong s
  | .lineInputChange line level => Sys2Proof.Machine.execLineInputChange line level s
  | .downstreamByte value stopHigh => Sys2Proof.Machine.execDownstreamByte value stopHigh s
  | .readerCharacter value => Sys2Proof.Machine.execReaderCharacter value s
  | .unknownKindRecord => Sys2Proof.Machine.execUnknownKindRecord s
  | .unknownPrintCode code => Sys2Proof.Machine.execUnknownPrintCode code s

end Sys2Proof.Machine
end

