-- ==== Sys2Proof/Safety.lean ====
section
/-! DEFINITION. What the statements about the part speak of: which parts of the state a command leaves alone, which commands are
requests, and the properties a safe run keeps. -/

namespace Sys2Proof.Machine

/-! ### Parts of the state -/

/-- The fields of `State`, by name. -/
inductive Part where
  | pending | clock | latched | link | params | store | chanP | chanB | pricing | items
  | bag | card | receipt | composer | mech | rail | pgH | pgD | drawer | lines
  deriving DecidableEq, Repr

/-- Every part. -/
def allParts : List Part :=
  [.pending, .clock, .latched, .link, .params, .store, .chanP, .chanB, .pricing, .items, .bag,
   .card, .receipt, .composer, .mech, .rail, .pgH, .pgD, .drawer, .lines]

/-- One part of the state is the same. -/
def samePart (p : Part) (s t : State) : Bool :=
  match p with
  | .pending => decide (t.pending = s.pending)
  | .clock => decide (t.clock = s.clock)
  | .latched => decide (t.latched = s.latched)
  | .link => decide (t.link = s.link)
  | .params => decide (t.params = s.params)
  | .store => decide (t.store = s.store)
  | .chanP => decide (t.chanP = s.chanP)
  | .chanB => decide (t.chanB = s.chanB)
  | .pricing => decide (t.pricing = s.pricing)
  | .items => decide (t.items = s.items)
  | .bag => decide (t.bag = s.bag)
  | .card => decide (t.card = s.card)
  | .receipt => decide (t.receipt = s.receipt)
  | .composer => decide (t.composer = s.composer)
  | .mech => decide (t.mech = s.mech)
  | .rail => decide (t.rail = s.rail)
  | .pgH => decide (t.pgH = s.pgH)
  | .pgD => decide (t.pgD = s.pgD)
  | .drawer => decide (t.drawer = s.drawer)
  | .lines => decide (t.lines = s.lines)

/-- Every part of the state but the touched ones is the same. -/
def sameOutside (touched : List Part) (s t : State) : Bool :=
  allParts.all fun p => touched.contains p || samePart p s t

/-! ### Requests -/

/-- The requests, each with its header and its message code (R201); the request with an unknown code is apart (R200). -/
def requestOf (c : Instr) : Option (Header × Byte) :=
  match c with
  | .identify h => some (h, 0x01)
  | .linkStatus h => some (h, 0x02)
  | .readConditions h _ => some (h, 0x03)
  | .setParameter h _ _ => some (h, 0x04)
  | .getParameter h _ => some (h, 0x05)
  | .stageBegin h _ => some (h, 0x06)
  | .stageEntries h _ => some (h, 0x07)
  | .stageDelete h _ => some (h, 0x08)
  | .stageSeal h _ _ => some (h, 0x09)
  | .stageCommit h => some (h, 0x0A)
  | .stageAbandon h => some (h, 0x0B)
  | .tableQuery h _ => some (h, 0x0C)
  | .calZero h _ => some (h, 0x0D)
  | .calSpan h _ _ => some (h, 0x0E)
  | .laneReset h => some (h, 0x0F)
  | .laneMode h _ => some (h, 0x10)
  | .linesConfigDirections h _ => some (h, 0x11)
  | .linesConfigCondition h _ _ _ _ => some (h, 0x11)
  | .linesWrite h _ _ => some (h, 0x12)
  | .linesRead h => some (h, 0x13)
  | .zero h _ => some (h, 0x01)
  | .tare h _ => some (h, 0x02)
  | .tarePreset h _ _ => some (h, 0x03)
  | .tareClear h _ => some (h, 0x04)
  | .weighItem h _ => some (h, 0x05)
  | .weighItemInline h _ _ _ => some (h, 0x05)
  | .weighCancel h => some (h, 0x06)
  | .lock h => some (h, 0x07)
  | .ticketVoid h _ => some (h, 0x08)
  | .ticketQuery h _ => some (h, 0x09)
  | .reportMode h _ _ => some (h, 0x0A)
  | .expect h _ _ _ => some (h, 0x01)
  | .expectNone h _ => some (h, 0x02)
  | .expectCancel h _ => some (h, 0x03)
  | .override h => some (h, 0x04)
  | .bagStatus h => some (h, 0x05)
  | .cardArm h => some (h, 0x01)
  | .cardDisarm h => some (h, 0x02)
  | .slipDiscard h _ => some (h, 0x03)
  | .openReceipt h _ => some (h, 0x01)
  | .tender h _ _ _ => some (h, 0x02)
  | .closeReceipt h _ _ => some (h, 0x03)
  | .abandonReceipt h => some (h, 0x04)
  | .printResume h => some (h, 0x05)
  | .printStatus h => some (h, 0x06)
  | .drawerRelease h => some (h, 0x01)
  | .drawerStatus h => some (h, 0x02)
  | .powerOnReset _ | .linkReset | .badFrame _ | .unknownCodeRequest _ _ _ | .upstreamFrameBuild
  | .storeWriteComplete _ | .sampleArrival _ _ | .silenceExpiry _ | .periodicReport _ | .sealSwitchChange _
  | .ticketExpired _ | .placeTimeout _ | .lightPhaseToggle | .recordStart | .swipe | .chip | .removed | .fault
  | .framingError _ | .recordTimeout | .armTimeout | .cardForwarding | .slipExpired _ | .textLine _ _ _ _
  | .weighedLine _ | .voidLine _ | .cardLine _ | .feed _ | .cut _ | .composeItem | .claimGrant | .pulseBegin _
  | .pulseEnd _ | .paperStep | .releaseMeasureExpiry | .headTemperatureSample _ | .paperOutSensor _
  | .coverOpenSensor _ | .nearEndSensor _ | .cutterHome _ | .cutterJam | .railVoltageSample _
  | .drawerSensorChange _ | .confirmTimeout | .openTooLong | .lineInputChange _ _ | .downstreamByte _ _
  | .readerCharacter _ | .unknownKindRecord | .unknownPrintCode _ => none

/-- The metrology requests (chapter 2): CAL_ZERO, CAL_SPAN, and SET_PARAMETER naming a metrology parameter. -/
def isMetrologyRequest (c : Instr) : Bool :=
  match c with
  | .setParameter _ name _ => isMetrology name
  | .calZero _ _ | .calSpan _ _ _ => true
  | _ => false

/-- The state in which an admitted request is judged: its frame taken and its credit counted (R199, R202). -/
def admitted (s : State) : State := countRequest (frameTaken s)

/-- A request that is well formed and has credit (R200, R202). -/
abbrev Admitted (h : Header) (s : State) : Prop := h.wellFormed = true ∧ s.link.outstanding < 16

/-- A state whose request has been taken, counted and answered: what every request leaves besides its own effect (R199, R202,
R203). -/
def replied (r : Reply) (s : State) : State :=
  s.setLink { s.link with
    receiver := { phase := .frame }, outstanding := s.link.outstanding + 1, replies := s.link.replies ++ [r] }

/-- The reply a request has placed. -/
def Replied (r : Reply) (s t : State) : Prop :=
  t.link.receiver = { phase := .frame } ∧ t.link.outstanding = s.link.outstanding + 1 ∧
  t.link.replies = s.link.replies ++ [r]

/-- A reading weighed again: the raw gross of `r` against the zero and the tare that the channel record `ch` holds (R10, R17). -/
def Reweighed (m : MetParams) (c : Chan) (ch : Channel) (r r' : Reading) : Prop :=
  r'.g = r.g ∧ r'.gross = clamp32 (r.g - ch.zOp) ∧ r'.tare = ch.tare ∧ r'.net = clamp32 (r'.gross - ch.tare) ∧
  r'.interval = intervalOf m c r'.net ∧ r'.overload = r.overload ∧ r'.underload = r.underload ∧
  r'.nd = (if ch.state = .ready ∧ r.overload = false ∧ r.underload = false
    then some (roundAway (divisionOf m c r'.net) r'.net) else none)

/-! ### Locks -/

/-- The clear test of R55: a reading of channel P that is READY and stable, with Nd present and below Min. -/
abbrev ClearTest (m : MetParams) (r : Reading) : Prop :=
  r.state = .ready ∧ r.stable = true ∧ ∃ nd, r.nd = some nd ∧ nd < 20 * m.pE1

/-- The arrival of the reading `r` on channel P makes the automatic lock of `w`: the stable flag turns true in it, and checks 2 to 10 of
R43 pass for its net `nd` (R46). A reading that passes the clear test is below Min and locks nothing, so clear-required must be clear
before it. -/
abbrev AutoLocks (s : State) (r : Reading) (w : Weighing) (nd : Int) : Prop :=
  s.pricing.weighing = some w ∧ w.autoLock = true ∧ s.chanP.stable = false ∧ r.stable = true ∧ r.state = .ready ∧
  (s.receipt.mode = .attended ∨ s.receipt.state = .opened ∨ s.receipt.state = .tendering) ∧ s.verifier ≠ .hold ∧
  s.pricing.clearRequired = false ∧ r.nd = some nd ∧ 20 * s.met.pE1 ≤ nd ∧ nd ≤ s.met.pMax ∧ priceOf w nd ≤ 999999 ∧
  s.pricing.tickets.length < 32 ∧ (s.receipt.mode = .attended ∨ s.bag.queue.length < 8)

/-- A lock of `w` from the reading `r` with net `nd` has made the ticket `k`, with the expectation of SELF mode, clear-required set and the
pending weighing ended (R44, R45, R48, R56). -/
def LockMade (w : Weighing) (r : Reading) (nd : Int) (k : Ticket) (s t : State) : Prop :=
  k = { number := s.pricing.nextTicket, itemCode := w.itemCode, description := w.description, unitPrice := w.price
        basis := w.basis, step := w.step, nd := nd, interval := r.interval
        division := if r.interval = 1 then s.met.pE1 else s.met.pE2, tare := r.tare, source := r.source
        price := priceOf w nd, generation := w.generation, lockTime := s.now, state := .locked, receipt := none
        voidRequested := false, expectation := if s.receipt.mode = .selfService then some s.bag.nextId else none } ∧
  t.pricing = ⟨none, s.pricing.tickets ++ [k], t.pricing.nextTicket, true⟩ ∧
  t.pricing.nextTicket ∉ t.pricing.tickets.map (·.number) ∧
  (s.receipt.mode = .attended → t.bag = s.bag) ∧
  (s.receipt.mode = .selfService →
    t.bag = { s.bag with
      nextId := t.bag.nextId
      queue := s.bag.queue ++
        [⟨s.bag.nextId, nd, nd - toleranceOf s.params w.bagTolerance nd, nd + toleranceOf s.params w.bagTolerance nd,
          .ticket k.number, s.now, false⟩] } ∧
    t.bag.nextId ∉ t.bag.queue.map (·.id))

/-! ### Weight reports and metrology changes -/

/-- A weight report of a channel as it stands (R21). -/
def ReportOf (s : State) (c : Chan) (w : WeightReport) : Prop :=
  w.channel = c ∧ w.state = (s.chan c).state ∧ w.tare = (s.chan c).tare ∧ w.source = (s.chan c).tareSource ∧
  w.stamp = s.now ∧
  (w.stable = true ↔ (s.chan c).stable = true ∧ ((s.chan c).state = .zeroing ∨ (s.chan c).state = .ready)) ∧
  ((s.chan c).state ≠ .ready →
    w.nd = none ∧ w.grossRounded = none ∧ w.interval = none ∧ w.overload = none ∧ w.underload = none) ∧
  ∀ r, (s.chan c).state = .ready → (s.chan c).reading = some r →
    w.nd = r.nd ∧ w.grossRounded = r.grossRounded ∧ w.interval = some r.interval ∧ w.overload = some r.overload ∧
    w.underload = some r.underload

/-- Two reports agree in every field that ON_CHANGE compares (R23). -/
abbrev AgreeOnChange (a b : WeightReport) : Prop :=
  a.state = b.state ∧ a.stable = b.stable ∧ a.nd = b.nd ∧ a.interval = b.interval ∧ a.tare = b.tare ∧
  a.source = b.source ∧ a.overload = b.overload ∧ a.underload = b.underload

/-- A channel before and after a metrology change that leaves its calibration record as it was; `valid` says that the record is valid,
`len` that the change is one of its FILTER_LEN (R38). -/
def ChangedBy (c : Chan) (valid len : Bool) (ch ch' : Channel) : Prop :=
  ch'.zeroEstablished = false ∧ ch'.zeroFailed = false ∧ ch'.aztStart = none ∧ ch'.reading = none ∧
  ch'.zInit = ch.zInit ∧ ch'.zOp = ch.zOp ∧ ch'.mode = ch.mode ∧ ch'.due = ch.due ∧
  (c = .P → ch'.operatorTare = 0) ∧
  (ch.state = .ready ∨ ch.state = .zeroing →
    ch'.state = (if len then .filling else .zeroing) ∧ ch'.stability = [] ∧ ch'.stable = false) ∧
  (ch.state = .filling → ch'.state = .filling ∧ ch'.stability = [] ∧ ch'.stable = false) ∧
  (ch.state = .fault ∨ ch.state = .off ∨ (ch.state = .uncalibrated ∧ valid = false) → ch'.state = ch.state) ∧
  (len = false ∨ ch.state = .off → ch'.filter = ch.filter) ∧
  (len = true → ch.state ≠ .off → ch.state ≠ .uncalibrated ∨ valid = false → ch'.filter = [] ∧ ch'.counts = [])

/-! ### The upstream frame -/

/-- The messages that wait, in the order in which the slots of a frame take them (R204); with the run at 4 and a reply waiting, the
oldest reply stands before the Alert queue (R205). -/
def waitingMessages (s : State) : List Message :=
  s.link.linkUp.toList.map .linkUp ++
  (if s.link.run = 4 then
    (s.link.replies.take 1).map .reply ++ s.link.alerts.map .alert ++ (s.link.replies.drop 1).map .reply
   else s.link.alerts.map .alert ++ s.link.replies.map .reply) ++
  (s.chanP.slot.toList ++ s.chanB.slot.toList).map .report

/-- A message of the Alert queue. -/
def isAlert : Message → Bool
  | .alert _ => true
  | .linkUp _ | .reply _ | .report _ => false

/-- A weight report. -/
def isReport : Message → Bool
  | .report _ => true
  | .linkUp _ | .reply _ | .alert _ => false

/-! ### Events, print records and settled claims -/

/-- The events placed in one command, in their order; those that find 24 held are discarded (R203). -/
abbrev Placed (events : List Event) (s t : State) : Prop :=
  t.link.alerts = s.link.alerts ++ (events.map fun e => (⟨s.now, e⟩ : Alert)).take (24 - s.link.alerts.length)

/-- The events placed in one command, in their order, and the conditions latched in it: an event that finds 24 held is discarded and
ALERT_OVERFLOW latches (R203, R206). -/
def Told (conditions : List Condition) (events : List Event) (s t : State) : Prop :=
  Placed events s t ∧
  ∀ x, x ∈ t.latched ↔
    x ∈ s.latched ∨ x ∈ conditions ∨ (x = .alertOverflow ∧ events ≠ [] ∧ 24 < s.link.alerts.length + events.length)

/-- The print records, each with its message code (R136). -/
def printRecordCode (c : Instr) : Option Byte :=
  match c with
  | .textLine _ _ _ _ => some 0x21
  | .weighedLine _ => some 0x22
  | .voidLine _ => some 0x23
  | .cardLine _ => some 0x24
  | .feed _ => some 0x25
  | .cut _ => some 0x26
  | .unknownPrintCode code => some code
  | _ => none

/-- A print record that is not well formed (R136). -/
def malformedRecord (c : Instr) : Bool :=
  match c with
  | .textLine _ _ _ otherBits => otherBits
  | .weighedLine n | .voidLine n | .cardLine n => n.isNone
  | .feed rows => rows == 0 || decide (255 < rows)
  | .cut kind => kind.isNone
  | .unknownPrintCode _ => true
  | _ => false

/-- What a well-formed record that names no ticket and no slip puts in the Print Queue (R136, R137). -/
def plainContent (c : Instr) : Option PrintContent :=
  match c with
  | .textLine text doubleHeight centered false => some (.text (text.take 48) doubleHeight centered)
  | .feed rows => if 1 ≤ rows ∧ rows ≤ 255 then some (.feed rows) else none
  | .cut (some kind) => some (.cut kind)
  | _ => none

/-- No waiting claim fits and no row is at its step: nothing on the print path is about to move in this event (R157, R174). -/
abbrev Settled (s : State) : Prop := grantable s = none ∧ rowPhase s ≠ some .reached

/-- No claim waits (R174). -/
abbrev NoneWaiting (s : State) : Prop := firstWaiting s.rail = none

/-- A record joined the Print Queue at its newest end, and was taken at once from an empty one when the Line Queue had room (R138,
R142). -/
def Joined (content : PrintContent) (s t : State) : Prop :=
  t.composer =
    if s.composer.queue = [] ∧ s.composer.lines.length + (recordEntries t (printTag s.receipt) content).length ≤ 8 then
      ⟨[], s.composer.lines ++ recordEntries t (printTag s.receipt) content, s.composer.owed + 1⟩
    else { s.composer with queue := s.composer.queue ++ [.record content (printTag s.receipt)] }

/-- A record was discarded: one credit returned, the event emitted and REFERENCE_ERROR latched (R136, R140). -/
def RecordDiscarded (code : Byte) (reference : Option Nat) (reason : ReferenceFault) (s t : State) : Prop :=
  t.composer = { s.composer with owed := s.composer.owed + 1 } ∧
  Told [.referenceError] [.print (.referenceError code reference reason)] s t ∧
  sameOutside [.link, .latched, .composer] s t = true

/-- The head claim of the group after the one in hand. -/
def nextGroup (r : RowWork) : List Nat := r.groups.getD (r.index + 1) []

/-- The commands of the two sensors that stop printing (R161). -/
def sensorCommand (x : StopSensor) (active : Bool) : Instr :=
  match x with
  | .paperOut => .paperOutSensor active
  | .coverOpen => .coverOpenSensor active

/-- The debounced state of a sensor that stops printing. -/
def sensorActive (m : Mech) (x : StopSensor) : Bool :=
  match x with
  | .paperOut => m.paperOut
  | .coverOpen => m.coverOpen

/-- A sensor that stops printing has had its first settling (R169). -/
def sensorSettled (m : Mech) (x : StopSensor) : Bool :=
  match x with
  | .paperOut => m.paperSettled
  | .coverOpen => m.coverSettled

/-- A debounced state of a sensor that stops printing is kept. -/
def withSensor (m : Mech) (x : StopSensor) (active : Bool) : Mech :=
  match x with
  | .paperOut => { m with paperOut := active, paperSettled := true }
  | .coverOpen => { m with coverOpen := active, coverSettled := true }

/-! ### The hold of the bagging area and the work on a print entry -/

/-- The light and its measure follow the hold reason set: ON with the measure started when the hold begins, OFF when it ends, and
otherwise as they were (R95). -/
abbrev LightFollows (s t : State) : Prop :=
  (t.bag.reasons.any = s.bag.reasons.any → t.bag.lightOn = s.bag.lightOn ∧ t.bag.lightDue = s.bag.lightDue) ∧
  (t.bag.reasons.any = true → s.bag.reasons.any = false →
    t.bag.lightOn = true ∧ t.bag.lightDue = some (after s.now 500)) ∧
  (t.bag.reasons.any = false → s.bag.reasons.any = true → t.bag.lightOn = false ∧ t.bag.lightDue = none)

/-- The last event of a change of the hold reason set (R77, R96). -/
def boundaryEvents (cause : ClearCause) (s t : State) : List Event :=
  if s.bag.reasons.any = false ∧ t.bag.reasons.any = true then [.bag .holdEntered t.bag.reasons t.bag.wref]
  else if s.bag.reasons.any = true ∧ t.bag.reasons.any = false then
    [.bag (.holdCleared cause s.bag.reasons) t.bag.reasons t.bag.wref]
  else []

/-- The verifier holds `b` after a judgment, with the light that follows, and has told `kinds`, each with the reasons and Wref as they
then stand, and the begin or the end of the hold (R77, R95, R96). -/
def Judged (b : Bag) (kinds : List BagKind) (cause : ClearCause) (s t : State) : Prop :=
  t.bag = { b with lightOn := t.bag.lightOn, lightDue := t.bag.lightDue } ∧ LightFollows s t ∧
  Placed (kinds.map (fun k => .bag k t.bag.reasons t.bag.wref) ++ boundaryEvents cause s t) s t

/-- Work has begun on the entry `e` at the head in the event that gave the mechanism `m`, with the motor hold HELD and no row in
progress, beside the claims `rail`: WAIT_HOT; or a row without dots, which waits for its step or is stepped at once; or the head claim
of the first group, granted at once and fired, or waiting; or the cutter claim, granted at once or waiting (R152, R154, R155, R157,
R159, R163, R174). -/
def WorkBegun (e : LineEntry) (m : Mech) (rail : Rail) (s t : State) : Prop :=
  (stateFor e m.overheat = .waitHot → t.mech = { m with state := .waitHot } ∧ t.rail = rail ∧ t.pgH = s.pgH) ∧
  (stateFor e m.overheat = .running → nextRowDots e m.done = [] →
    (stepReady (s.setMech m) = false →
      t.mech = { m with state := .running, row := some ⟨[], 0, .awaiting, s.params.dotCurrent⟩ } ∧ t.rail = rail ∧
      t.pgH = s.pgH) ∧
    (stepReady (s.setMech m) = true → m.done + 1 < entryRows e → nextRowDots e (m.done + 1) = [] →
      t.mech = { m with
        state := .running, row := some ⟨[], 0, .awaiting, s.params.dotCurrent⟩, done := m.done + 1
        lastStep := some s.clock } ∧ t.rail = rail ∧ t.pgH = s.pgH)) ∧
  (∀ first rest, stateFor e m.overheat = .running →
    splitGroups (s.setMech m) (nextRowDots e m.done) = first :: rest → rail.head.phase = .none →
    (s.ceff < rail.granted + groupUnits s.params.dotCurrent first →
      t.mech = { m with state := .running, row := some ⟨first :: rest, 0, .claiming, s.params.dotCurrent⟩ } ∧
      t.rail = { rail with head := ⟨.waiting, groupUnits s.params.dotCurrent first, s.now⟩ } ∧ t.pgH = s.pgH) ∧
    (rail.granted + groupUnits s.params.dotCurrent first ≤ s.ceff → s.pgH.phase = .idle → s.pgH.next = none →
      s.params.headSettle ≠ 0 →
      t.mech = { m with
        state := .running, headDots := first, row := some ⟨first :: rest, 0, .firing, s.params.dotCurrent⟩ } ∧
      t.rail = { rail with head := ⟨.granted, groupUnits s.params.dotCurrent first, s.now⟩ } ∧
      t.pgH = { phase := .waiting, wait := s.params.headSettle, pulse := heatTime s.params m.band, next := none
                due := some (s.clock + BitVec.ofNat 64 s.params.headSettle) })) ∧
  (entryKind e = .cutMark → rail.cutter.phase = .none →
    (s.ceff < rail.granted + s.params.cutterUnits →
      t.mech = { m with state := .cutting } ∧
      t.rail = { rail with cutter := ⟨.waiting, s.params.cutterUnits, s.now⟩ } ∧ t.pgH = s.pgH) ∧
    (rail.granted + s.params.cutterUnits ≤ s.ceff →
      t.mech = { m with state := .cutting, jamDue := some (after s.now 800) } ∧
      t.rail = { rail with cutter := ⟨.granted, s.params.cutterUnits, s.now⟩ } ∧ t.pgH = s.pgH))

/-! ### The end of a receipt -/

/-- RECEIPT_DONE of the receipt in progress, with what stood before the ending (R132). -/
def receiptDoneOf (ending : Ending) (s : State) : Event :=
  .receiptDone
    { number := s.receipt.number, ending := ending, openedTime := s.receipt.openedTime, endTime := s.now
      subtotal := s.receipt.subtotal, tickets := s.receipt.tickets.length, slips := s.receipt.slips.length
      tenders := s.receipt.tenders.length, tenderSum := (s.receipt.tenders.map (·.amount)).sum, mode := s.receipt.mode }

/-- The Item Table after a receipt has reached CLOSED: a COMMIT_PENDING Standby bank is switched in, with the next generation (R68,
R69). -/
abbrev SwitchedAtClose (s t : State) : Prop :=
  (s.items.state ≠ .commitPending → t.items = s.items) ∧
  (s.items.state = .commitPending → t.items =
    ⟨s.items.standby, if 65535 ≤ s.items.generation then 1 else s.items.generation + 1, [], .empty, none⟩)

/-- TABLE_SWITCHED of the switch that the end of a receipt makes (R68, R69). -/
def switchEvents (s t : State) : List Event :=
  if s.items.state = .commitPending then
    [.lane (.tableSwitched t.items.generation (sealedCheck s.items).1 (sealedCheck s.items).2)]
  else []

/-- No ticket and no slip of a receipt is left, and every other one is kept (R54, R115). -/
abbrev ReceiptCleared (n : Nat) (s t : State) : Prop :=
  t.pricing = { s.pricing with tickets := s.pricing.tickets.filter fun k => k.receipt ≠ some n } ∧
  t.card = { s.card with slips := s.card.slips.filter fun p => p.receipt ≠ some n }

/-! ### What a safe run keeps -/

/-- The law of R174: the sum of granted drive-rail claims never exceeds RAIL_CAPACITY. -/
abbrev RailWithin (s : State) : Prop := s.rail.granted ≤ s.params.railCapacity

/-- The law of R186: the solenoid is driven only while the Drawer Controller is in PULSING and holds a rail grant. PG-D and the drawer
claim follow the drawer state. -/
abbrev SolenoidSafe (s : State) : Prop :=
  (s.pgD.phase = .pulsing ↔ s.drawer.state = .pulsing) ∧
  (s.pgD.phase = .waiting ↔ s.drawer.state = .pulseWait) ∧
  (s.rail.drawer.phase = .granted ↔ s.drawer.state = .pulseWait ∨ s.drawer.state = .pulsing) ∧
  (s.rail.drawer.phase = .waiting ↔ s.drawer.state = .claiming)

/-- The ledger of R202: every outstanding request has its reply in the Reply queue or held for the store write, and at most 16 are
outstanding. -/
abbrev CreditsExact (s : State) : Prop :=
  s.link.outstanding = s.link.replies.length + (if s.store.held.isSome then 1 else 0) ∧
  s.link.outstanding ≤ 16 ∧ (s.store.held.isSome = true → s.store.writing = true)

/-- The capacities of R203, R48, R79, R147 and R137. -/
abbrev WithinCapacity (s : State) : Prop :=
  s.link.alerts.length ≤ 24 ∧ s.pricing.tickets.length ≤ 32 ∧ s.bag.queue.length ≤ 8 ∧
  s.composer.lines.length ≤ 8 ∧ recordCount s.composer ≤ 64

/-- Store current (R28): outside a write, the nonvolatile areas hold what the working copy holds. -/
abbrev StoreCurrent (s : State) : Prop :=
  s.store.writing = false → s.store.current = true → s.store.nv = writtenAreas s.store.audit s.store.work

/-- What R35 needs of the audit area: the counter has 16 bits, and outside a write the area reads as the counter or reads bad. -/
abbrev AuditKept (s : State) : Prop :=
  s.store.audit ≤ 65535 ∧
  (s.store.writing = false → readAudit s.store.nv.audit = none ∨ readAudit s.store.nv.audit = some s.store.audit)

/-- The laws of R123 and R127 for tickets and slips: numbers are distinct; a ticket that is not LOCKED and a slip that is not HELD belong
to the receipt in progress, none with the receipt CLOSED; the weighed subtotal is the sum of the prices of the attached tickets whose
void has not been requested. -/
abbrev SaleConsistent (s : State) : Prop :=
  (s.pricing.nextTicket :: s.pricing.tickets.map (·.number)).Nodup ∧ s.pricing.tickets.length ≤ 32 ∧
  (s.receipt.state ≠ .closed → s.receipt.number.isSome = true) ∧
  (∀ t ∈ s.pricing.tickets,
    (t.state = .locked ∧ t.receipt = none ∧ t.voidRequested = false) ∨
    (t.state ≠ .locked ∧ s.receipt.state ≠ .closed ∧ t.receipt = s.receipt.number)) ∧
  (∀ p ∈ s.card.slips,
    (p.state = .held ∧ p.receipt = none) ∨
    (p.state ≠ .held ∧ s.receipt.state ≠ .closed ∧ p.receipt = s.receipt.number)) ∧
  s.receipt.subtotal =
    ((s.pricing.tickets.filter fun t => t.state != .locked && !t.voidRequested).map (·.price)).sum

/-- Each bank is in ascending code order, with at most one entry for a code and at most 4,096 entries (R60). -/
abbrev BanksOrdered (s : State) : Prop :=
  s.items.active.Pairwise (fun a b => a.code < b.code) ∧ s.items.standby.Pairwise (fun a b => a.code < b.code) ∧
  s.items.active.length ≤ 4096 ∧ s.items.standby.length ≤ 4096

/-- The hold reason set against the queue, the hold reference, the light and the lane mode (R77, R83, R87, R95). -/
abbrev HoldConsistent (s : State) : Prop :=
  (s.bag.reasons.overdue = true ↔ ∃ e ∈ s.bag.queue, e.overdue = true) ∧
  (s.bag.holdReference.isSome = true ↔ s.bag.reasons.unexpected = true ∨ s.bag.reasons.removed = true) ∧
  (s.bag.lightDue.isSome = true ↔ s.verifier = .hold) ∧ (s.bag.lightOn = true → s.verifier = .hold) ∧
  (s.receipt.mode = .attended → s.bag.reasons = {} ∧ s.bag.queue = [] ∧ s.bag.wref = none)

/-- Account digits are kept only while a record is received or waits for forwarding, and a slip shows at most ten digits of its account
(R108, R111). -/
abbrev AccountsHidden (s : State) : Prop :=
  (s.card.port = .receiving ↔ s.card.rx.phase ≠ .hunt ∧ s.card.rx.destination = .store) ∧
  (s.card.port = .disarmed ∨ s.card.port = .armed → s.card.buffer = none) ∧
  ∀ p ∈ s.card.slips, (p.masked.filter fun b => b != 0x2A).length ≤ 10 ∧ p.lastFour.length ≤ 4

/-- The print state fits the entry at the head of the Line Queue (R152, R159). -/
def headFits (s : State) : Prop :=
  match s.mech.state, s.headEntry with
  | .idle, none => True
  | .running, some e => entryKind e ≠ .cutMark
  | .waitHot, some e => entryKind e = .textRun
  | .cutting, some e => entryKind e = .cutMark
  | .stopped, _ => True
  | _, _ => False

/-- The head claim that goes with a phase of the row in progress (R155). -/
def headClaimPhase : Option RowPhase → ClaimPhase
  | some .claiming => .waiting
  | some .firing => .granted
  | some .reached | some .awaiting | none => .none

/-- The Print Mechanism holds what it drives: the stepper claim follows the motor hold, a row runs only under a held stepper, the strobe
fires only under a granted head claim, the cutter runs only under a granted cutter claim, and only a cut mark carries a marker's
notice (R152, R153, R155, R163). -/
def PrintConsistent (s : State) : Prop :=
  headFits s ∧
  (s.mech.row.isSome = true → s.mech.state = .running ∧ s.mech.hold = .held) ∧
  (s.mech.hold = .released ↔ s.rail.stepper.phase = .none) ∧
  (s.mech.hold = .claiming ↔ s.rail.stepper.phase = .waiting) ∧
  (s.mech.stepperUnits.isSome = true ↔ s.mech.hold ≠ .released) ∧
  (s.rail.cutter.phase ≠ .none → s.mech.state = .cutting) ∧
  (s.mech.jamDue.isSome = true ↔ s.rail.cutter.phase = .granted) ∧
  s.rail.head.phase = headClaimPhase (rowPhase s) ∧
  (s.pgH.phase ≠ .idle ↔ rowPhase s = some .firing) ∧
  (∀ e ∈ s.composer.lines, ∀ kind n, e.notice = some (.markerCut kind n) → entryKind e = .cutMark)

end Sys2Proof.Machine
end

