-- ==== Sys2Proof/Certificates/Slice0/Obligations.lean ====
section
/-! DEFINITION. The statements for the provers, one definition each, in the order of the chapters they rest on. -/

open Sys2Proof Sys2Proof.Machine

/-! ### The machine and the Lane Link Interface -/

/-- The command at the front of the queue is the one a step runs, with the queue's rest. -/
def Obligations.StepRunsFrontCommand : Prop :=
  ∀ (c : Instr) (rest : List Instr) (s : State),
    step { s with pending := c :: rest } = exec c { s with pending := rest }

/-- With no command waiting one microsecond passes: the clock moves, exactly the expiries then due join the queue, each named with what
makes it due, and nothing else changes. The model's choice, log entry 7; that PG-D is timed on the lane clock is log entry 54. -/
def Obligations.IdleStepPassesTime : Prop :=
  ∀ s : State, s.pending = [] →
    ∃ t, step s = .next t ∧ t.clock = s.clock + 1 ∧ sameOutside [.pending, .clock] s t = true ∧
      t.pending = recordExpiries (advanceClock s) ++ timerExpiries (advanceClock s) ∧
      (∀ c ∈ t.pending, requestOf c = none) ∧
      (∀ c start, (s.chan c).silenceStart = some start →
        (.silenceExpiry c ∈ t.pending ↔ (s.chan c).state ≠ .off ∧ 100 ≤ age t.now start)) ∧
      (∀ c n due, (s.chan c).mode = .periodic n → (s.chan c).due = some due →
        (.periodicReport c ∈ t.pending ↔ reached t.now due = true)) ∧
      (∀ n, .ticketExpired n ∈ t.pending ↔ ∃ k ∈ s.pricing.tickets, k.number = n ∧ k.state = .locked ∧
        s.params.refLifetime * 1000 ≤ age t.now k.lockTime) ∧
      (∀ id, .placeTimeout id ∈ t.pending ↔ ∃ e ∈ s.bag.queue, e.id = id ∧ e.overdue = false ∧
        s.params.placeTimeout * 1000 ≤ age t.now e.posted) ∧
      (∀ id, .slipExpired id ∈ t.pending ↔ ∃ p ∈ s.card.slips, p.id = id ∧ p.state = .held ∧
        s.params.refLifetime * 1000 ≤ age t.now p.readTime) ∧
      (.lightPhaseToggle ∈ t.pending ↔ s.verifier = .hold ∧ dueReached t.now s.bag.lightDue = true) ∧
      (.recordTimeout ∈ t.pending ↔ s.card.rx.phase ≠ .hunt ∧ 500 ≤ age t.now s.card.rx.lastByte) ∧
      (.armTimeout ∈ t.pending ↔
        (s.card.port = .armed ∨ s.card.port = .receiving) ∧ dueReached t.now s.card.armDue = true) ∧
      (.pulseBegin .H ∈ t.pending ↔ s.pgH.phase = .waiting ∧ genDue s.pgH t.clock = true) ∧
      (.pulseEnd .H ∈ t.pending ↔ s.pgH.phase = .pulsing ∧ genDue s.pgH t.clock = true) ∧
      (.pulseBegin .D ∈ t.pending ↔ s.pgD.phase = .waiting ∧ genDue s.pgD t.now = true) ∧
      (.pulseEnd .D ∈ t.pending ↔ s.pgD.phase = .pulsing ∧ genDue s.pgD t.now = true) ∧
      (.paperStep ∈ t.pending ↔ rowPhase s = some .awaiting ∧ s.mech.hold = .held ∧
        ∀ last, s.mech.lastStep = some last → s.params.stepPeriod ≤ (t.clock - last).toNat) ∧
      (.releaseMeasureExpiry ∈ t.pending ↔
        s.mech.hold = .lingering ∧ dueReached t.now s.mech.lingerDue = true) ∧
      (.cutterJam ∈ t.pending ↔ dueReached t.now s.mech.jamDue = true) ∧
      (.confirmTimeout ∈ t.pending ↔ s.drawer.state = .confirming ∧ dueReached t.now s.drawer.confirmDue = true) ∧
      (.openTooLong ∈ t.pending ↔ ∃ stamp, s.drawer.openStamp = some stamp ∧ s.drawer.state = .opened ∧
        s.drawer.tooLong = false ∧ s.params.drawerOpenLimit * 1000 ≤ age t.now stamp)

/-- A request without credit is discarded: no reply, INTAKE_OVERRUN latched, nothing else but the receiver's frame taken. A malformed
request with credit is answered BAD_REQUEST and changes nothing. -/
def Obligations.UncreditedAndMalformedRequestsChangeNothing : Prop :=
  (∀ (c : Instr) (h : Header) (code : Byte) (s : State),
     requestOf c = some (h, code) → 16 ≤ s.link.outstanding →
       ∃ t, exec c s = .next t ∧ (∀ x, x ∈ t.latched ↔ x = .intakeOverrun ∨ x ∈ s.latched) ∧
         t.link = { s.link with receiver := { phase := .frame } } ∧ sameOutside [.link, .latched] s t = true) ∧
  (∀ (c : Instr) (h : Header) (code : Byte) (s : State),
     requestOf c = some (h, code) → h.wellFormed = false → s.link.outstanding < 16 →
       ∃ body, exec c s = .next (replied ⟨code, h.tag, .badRequest, body⟩ s))

/-- A request answered with a status other than OK changes nothing. -/
def Obligations.RefusedRequestChangesNothing : Prop :=
  ∀ (c : Instr) (h : Header) (code : Byte) (s t : State) (r : Reply),
    requestOf c = some (h, code) → s.link.outstanding < 16 → exec c s = .next t →
      t.link.replies = s.link.replies ++ [r] → r.status ≠ .ok → t = replied r s

/-- IDENTIFY, LINK_STATUS and GET_PARAMETER are answered OK in every state and change nothing. That the Reply queue occupancy is the one
before the reply is placed is the model's choice, log entry 41, that an accepted DRAWER_POLARITY is in force at once log entry 50; the
revision letter is a free value, log entry 4. -/
def Obligations.IdentityStatusAndParameter : Prop :=
  ∀ (h : Header) (s : State), h.wellFormed = true → s.link.outstanding < 16 →
    exec (.identify h) s = .next (replied ⟨0x01, h.tag, .ok,
      .identity 0x0B3C [0x4A, 0x4C, 0x34, 0x32, 0x30] Config.revision s.store.serial s.store.audit s.items.generation
        (s.store.work.calP.zCal.isSome && s.store.work.calP.span.isSome)
        (s.store.work.calB.zCal.isSome && s.store.work.calB.span.isSome)⟩ s) ∧
    exec (.linkStatus h) s = .next (replied ⟨0x02, h.tag, .ok,
      .linkStatus 0 0 s.link.replies.length s.link.alerts.length s.chanP.slot.isSome s.chanB.slot.isSome
        s.link.run s.now⟩ s) ∧
    (∀ name v, settableValue name s = some v →
      exec (.getParameter h name) s = .next (replied ⟨0x05, h.tag, .ok, .parameter name (.value v)⟩ s)) ∧
    exec (.getParameter h .sealState) s =
      .next (replied ⟨0x05, h.tag, .ok, .parameter .sealState (.sealState s.store.sealOpen)⟩ s) ∧
    exec (.getParameter h .railState) s =
      .next (replied ⟨0x05, h.tag, .ok, .parameter .railState (.railState (railReport s))⟩ s) ∧
    (∀ text, exec (.getParameter h (.unknown text)) s = .next (replied ⟨0x05, h.tag, .badRequest, .none⟩ s))

/-- EXPECT_NONE, BAG_STATUS, PRINT_STATUS, DRAWER_STATUS and LINES_READ are answered OK in every state and change nothing; what each
carries, BAG_STATUS what channel B last offered. That the verifier keeps what channel B last offered is a field of the model's own, log
entry 36, and what counts as an offer is the model's choice, log entry 43; the level on the pin of an IN line is a free value, log entry 5;
that a cut mark at the head is 0 rows long is the model's choice, log entry 53. -/
def Obligations.StatusRequestsChangeNothing : Prop :=
  ∀ (h : Header) (s : State), h.wellFormed = true → s.link.outstanding < 16 →
    (∀ code, exec (.expectNone h code) s = .next (replied ⟨0x02, h.tag, .ok, .expectNone code s.now⟩ s)) ∧
    exec (.bagStatus h) s = .next (replied ⟨0x05, h.tag, .ok,
      .bagStatus ⟨s.verifier, s.bag.reasons, s.bag.wref, s.bag.holdReference, s.bag.lightOn, s.bag.nextId,
        s.bag.offered.state, s.bag.offered.stable, s.bag.offered.nd, s.bag.queue⟩⟩ s) ∧
    exec (.printStatus h) s = .next (replied ⟨0x06, h.tag, .ok,
      .printStatus ⟨s.mech.state, s.mech.reason, s.mech.stops.head?.map (·.sensor), s.mech.celsius, s.mech.band, s.mech.overheat,
        s.mech.paperOut, s.mech.nearEnd, s.mech.coverOpen, s.mech.home, s.mech.hold, s.mech.stepperUnits,
        s.composer.lines.head?.map (fun e => ⟨entryKind e, entryRows e, s.mech.done⟩),
        decide (s.mech.state = .stopped ∨ s.mech.nearEnd = true), recordCount s.composer, reservedCell s.composer,
        s.composer.lines.length, s.composer.owed⟩⟩ s) ∧
    (∃ d, exec (.drawerStatus h) s = .next (replied ⟨0x02, h.tag, .ok, .drawerStatus d⟩ s) ∧
      d.state = s.drawer.state ∧ d.sensorOpen = s.sensorOpen ∧
      d.release = s.drawer.authorization.map (fun a => ⟨a, s.drawer.retriesLeft, s.drawer.attempts⟩) ∧
      d.confirmLeft = s.drawer.confirmDue.map (fun due => age due s.now) ∧ d.permit = s.receipt.permit ∧
      d.permitOut = s.receipt.permitOut ∧ (d.opening.isSome = true ↔ s.drawer.state = .opened) ∧
      (∀ stamp, s.drawer.state = .opened → s.drawer.openStamp = some stamp →
        d.opening = some ⟨some stamp, age s.now stamp, s.drawer.cause, s.drawer.tooLong⟩) ∧
      d.generator = s.pgD.phase ∧ d.claim = s.rail.drawer.phase) ∧
    ∃ lines conditions, exec (.linesRead h) s = .next (replied ⟨0x13, h.tag, .ok,
        .lines lines conditions s.params.holdLightLine s.params.printerLightLine s.params.attendantCondition
          s.attendant⟩ s) ∧
      lines.length = 8 ∧ conditions.length = 4 ∧
      (∀ i : Fin 8, lines[i.val]? = some ⟨s.lines.directions.getLsbD i, s.lines.latches.getLsbD i,
        s.lines.inputs.get i, s.pinLevel i⟩) ∧
      (∀ i : Fin 4, conditions[i.val]? = some ⟨s.lines.conditions.get i, lineFlags s.lines (s.lines.conditions.get i),
        conditionValue s.lines (s.lines.conditions.get i)⟩)

/-- READ_CONDITIONS copies and clears one block's latched set, and each condition whose live state is true latches again. -/
def Obligations.ReadConditionsCopiesAndClears : Prop :=
  ∀ (h : Header) (b : Block) (s : State), h.wellFormed = true → s.link.outstanding < 16 →
    ∃ t, exec (.readConditions h (some b)) s = .next t ∧
      Replied ⟨0x03, h.tag, .ok, .conditions (blockConditions s b) (blockConditions t b)⟩ s t ∧
      (∀ c, c ∈ blockConditions s b ↔ c ∈ s.latched ∧ c.block = b) ∧
      (∀ c, c.block = b → (c ∈ t.latched ↔ liveState s c = true)) ∧
      (∀ c, c.block ≠ b → (c ∈ t.latched ↔ c ∈ s.latched)) ∧
      sameOutside [.link, .latched] s t = true

/-- What the receiver does with each character and each discarded frame; a good frame's ending flag runs the message that the frame
carries, a request of its channel and code with its tag, a print record, or a request with an unknown code; and the answer to the last.
That a request without fields is formed when its payload is empty is log entry 48, that what other payloads carry is a free value log
entry 3; that a message's command may also come on its own is log entry 11; that a low stop bit in HUNT is ignored, and what a discarded
frame leaves in the receiver, HUNT and no frame in progress included, is log entry 13. -/
def Obligations.ReceiverTakesCharactersAndFrames : Prop :=
  (∀ (v : Byte) (s : State),
     (s.link.receiver.phase = .hunt →
       exec (.downstreamByte v true) s = .next (if v = 0x7E then frameTaken s else s) ∧
       exec (.downstreamByte v false) s = .next s) ∧
     (s.link.receiver.phase = .frame → s.link.receiver.escape = false → v = 0x7E → s.link.receiver.bytes = [] →
       exec (.downstreamByte v true) s = .next s) ∧
     (s.link.receiver.phase = .frame → s.link.receiver.escape = false → v = 0x7D →
       exec (.downstreamByte v true) s =
         .next (s.setLink { s.link with receiver := { s.link.receiver with escape := true } })) ∧
     (s.link.receiver.phase = .frame → s.link.receiver.escape = false → v ≠ 0x7E → v ≠ 0x7D →
       s.link.receiver.bytes.length < 263 →
       exec (.downstreamByte v true) s =
         .next (s.setLink { s.link with receiver := ⟨.frame, s.link.receiver.bytes ++ [v], false⟩ })) ∧
     (s.link.receiver.phase = .frame → s.link.receiver.escape = true → v = 0x5E ∨ v = 0x5D →
       s.link.receiver.bytes.length < 263 →
       exec (.downstreamByte v true) s =
         .next (s.setLink { s.link with receiver := ⟨.frame, s.link.receiver.bytes ++ [v ^^^ 0x20], false⟩ })) ∧
     (s.link.receiver.phase = .frame → s.link.receiver.escape = true → v ≠ 0x5E → v ≠ 0x5D →
       exec (.downstreamByte v true) s = .next (latch .crcDiscard (s.setLink { s.link with receiver := {} }))) ∧
     (s.link.receiver.phase = .frame →
       exec (.downstreamByte v false) s = .next (latch .crcDiscard (s.setLink { s.link with receiver := {} }))) ∧
     (s.link.receiver.phase = .frame → s.link.receiver.bytes.length = 263 → s.link.receiver.escape = false →
       v ≠ 0x7E → v ≠ 0x7D →
       exec (.downstreamByte v true) s = .next (latch .crcDiscard (s.setLink { s.link with receiver := {} }))) ∧
     (s.link.receiver.phase = .frame → s.link.receiver.escape = false → v = 0x7E → s.link.receiver.bytes ≠ [] →
       s.link.receiver.bytes.length < 7 →
       exec (.downstreamByte v true) s =
         .next (latch .crcDiscard (s.setLink { s.link with receiver := { phase := .frame } }))) ∧
     (s.link.receiver.phase = .frame → s.link.receiver.escape = false → v = 0x7E →
       (goodFrame s.link.receiver.bytes = true →
         exec (.downstreamByte v true) s = exec (frameMessage s.link.receiver.bytes) s) ∧
       (s.link.receiver.bytes ≠ [] → goodFrame s.link.receiver.bytes = false →
         exec (.downstreamByte v true) s =
           .next (latch .crcDiscard (s.setLink { s.link with receiver := { phase := .frame } }))))) ∧
  (∀ (channel tag code : Byte) (payload body : List Byte), payload.length ≤ 256 →
     body = [channel, tag, code, BitVec.ofNat 8 (payload.length / 256), BitVec.ofNat 8 payload.length] ++ payload →
     goodFrame (body ++ [(crc16 body).extractLsb' 8 8, (crc16 body).extractLsb' 0 8]) = true ∧
     frameMessage (body ++ [(crc16 body).extractLsb' 8 8, (crc16 body).extractLsb' 0 8]) =
       readMessage channel tag code payload ∧
     (∀ x y : Byte, x ≠ (crc16 body).extractLsb' 8 8 ∨ y ≠ (crc16 body).extractLsb' 0 8 →
       goodFrame (body ++ [x, y]) = false) ∧
     (isRequestCode channel code = true →
       ∃ h, requestOf (readMessage channel tag code payload) = some (h, code) ∧ h.tag = tag) ∧
     (isRequestCode 4 code = false → printRecordCode (readMessage 4 tag code payload) = some code) ∧
     (channel ≠ 4 → isRequestCode channel code = false →
       readMessage channel tag code payload = .unknownCodeRequest channel tag code) ∧
     readMessage 0 tag 0x0F payload = .laneReset ⟨tag, payload.isEmpty⟩ ∧
     readMessage 1 tag 0x07 payload = .lock ⟨tag, payload.isEmpty⟩ ∧
     readMessage 2 tag 0x04 payload = .override ⟨tag, payload.isEmpty⟩ ∧
     readMessage 3 tag 0x01 payload = .cardArm ⟨tag, payload.isEmpty⟩ ∧
     readMessage 4 tag 0x04 payload = .abandonReceipt ⟨tag, payload.isEmpty⟩ ∧
     readMessage 5 tag 0x01 payload = .drawerRelease ⟨tag, payload.isEmpty⟩) ∧
  ((∀ (cause : FrameFault) (s : State),
     ∃ t, exec (.badFrame cause) s = .next t ∧ (∀ x, x ∈ t.latched ↔ x = .crcDiscard ∨ x ∈ s.latched) ∧
       (∃ r, t.link = { s.link with receiver := r } ∧ r.bytes = [] ∧ r.escape = false) ∧
       sameOutside [.link, .latched] s t = true) ∧
   (∀ (channel tag code : Byte) (s : State), channel ≠ 4 → isRequestCode channel code = false →
     s.link.outstanding < 16 →
       exec (.unknownCodeRequest channel tag code) s = .next (replied ⟨code, tag, .badRequest, .none⟩ s)))

/-- An upstream frame takes its messages in the order of their sources, at most three and 512 bytes of body, and as many of them as
fit; what it takes has left its source, one request credit is returned for each reply in it, the print credits owed are returned, a freed
Alert entry lets a waiting card read forward, and the alert-only run follows. That LINK_UP counts as an Alert message, and that a frame
whose leading reply does not fit behind it sets the run to 0, is log entry 29; that a build with nothing waiting changes nothing, and that
the frame built last is kept, is log entry 15. -/
def Obligations.UpstreamFrameTakesItsSources : Prop :=
  ∀ s : State,
    (somethingWaits s = false → exec .upstreamFrameBuild s = .next s) ∧
    (somethingWaits s = true → ∃ (f : UpFrame) (t : State), exec .upstreamFrameBuild s = .next t ∧ t.link.sent = some f ∧
      f.messages = ((waitingMessages s).take f.messages.length).map
        (fillCounts (16 - t.link.outstanding) (64 - recordCount s.composer)) ∧
      f.messages.length ≤ 3 ∧ (f.messages.map messageSize).sum ≤ 512 ∧
      (∀ m, f.messages.length < 3 → (waitingMessages s)[f.messages.length]? = some m →
        512 < (f.messages.map messageSize).sum + messageSize m) ∧
      f.requestCredits = (f.messages.filter isReply).length ∧ t.link.replies = s.link.replies.drop f.requestCredits ∧
      t.link.outstanding = s.link.outstanding - f.requestCredits ∧
      f.printCredits = s.composer.owed ∧ t.composer = { s.composer with owed := 0 } ∧ f.summary = summaryByte s ∧
      (∀ l, s.link.linkUp = some l → f.messages.head? = some (.linkUp l)) ∧ t.link.linkUp = none ∧
      t.chanP = { s.chanP with slot := if f.messages.filter isReport = [] then s.chanP.slot else none } ∧
      t.chanB = { s.chanB with
        slot := if (f.messages.filter isReport).length = (if s.chanP.slot.isSome then 2 else 1) then none else s.chanB.slot } ∧
      t.link.run = (if s.link.run = 4 ∧ s.link.replies ≠ [] then 0
        else if f.messages ≠ [] ∧ f.messages.all isAlertClass = true ∧ t.link.replies ≠ [] then s.link.run + 1 else 0) ∧
      (∀ rest, rest = s.link.alerts.drop (f.messages.filter isAlert).length →
        (s.card.port ≠ .forwarding ∨ 24 ≤ rest.length → t.link.alerts = rest ∧ t.card = s.card) ∧
        (∀ b r, s.card.port = .forwarding → rest.length < 24 → s.card.buffer = some b →
          parseCard b.kind b.payload = some r →
          ∃ d : CardData, t.link.alerts = rest ++ [⟨s.now, .cardData d⟩] ∧ d.account = r.account ∧
            d.slip = s.card.nextSlip ∧ t.card.port = .disarmed ∧ t.card.buffer = none)) ∧
      t.link.receiver = s.link.receiver ∧ sameOutside [.link, .composer, .chanP, .chanB, .card] s t = true)

/-- A link reset empties the link and keeps everything else. Power-on reset reads the counter and the metrology content from the
nonvolatile areas, each good or bad, with or without a write in flight, and leaves all else as after reset. The reset values that the
manual does not give and the model's own fields are log entries 1 and 36, the contents of LINK_UP log entry 16, the areas after a loss of
power log entry 37. -/
def Obligations.LinkResetAndPowerOn : Prop :=
  (∀ s : State, ∃ t, exec .linkReset s = .next t ∧
     t.link = { s.link with
       receiver := {}, outstanding := 0, replies := [], run := 0
       linkUp := some
         ⟨.linkReset, 16, 64 - recordCount s.composer, partCode, s.items.generation, s.receipt.mode, s.now⟩ } ∧
     t.store = { s.store with held := none } ∧ t.composer = { s.composer with owed := 0 } ∧
     t.chanP = { s.chanP with slot := none, baseline := none } ∧
     t.chanB = { s.chanB with slot := none, baseline := none } ∧
     sameOutside [.link, .store, .composer, .chanP, .chanB] s t = true) ∧
  (∀ (stage : WriteStage) (s : State), ∃ t, exec (.powerOnReset stage) s = .next t ∧
     (s.store.writing = false →
       t.store.nv = s.store.nv ∧ t.store.audit = (readAudit s.store.nv.audit).getD 65535 ∧
       t.store.work = (readMetrology s.store.nv.metrology).getD {} ∧
       (t.store.current = true ↔
         readAudit s.store.nv.audit ≠ none ∧ readMetrology s.store.nv.metrology ≠ none)) ∧
     (s.store.writing = true →
       (stage = .auditArea → t.store.audit = 65535 ∧ t.store.current = false ∧
         t.store.nv.metrology = s.store.nv.metrology ∧
         t.store.work = (readMetrology s.store.nv.metrology).getD {}) ∧
       (stage = .metrologyArea → t.store.audit = s.store.audit ∧ t.store.work = {} ∧ t.store.current = false) ∧
       (stage = .readBack → t.store.audit = s.store.audit ∧ t.store.work = s.store.work ∧ t.store.current = true ∧
         t.store.nv = writtenAreas s.store.audit s.store.work)) ∧
     (∀ c, (t.chan c).state =
       if (calOf t.store.work c).zCal.isSome ∧ (calOf t.store.work c).span.isSome then .filling else .uncalibrated) ∧
     (∀ x, x ∈ t.latched ↔ ∃ c, x = Condition.calInvalid c ∧ (t.chan c).state = .uncalibrated) ∧
     t = { State.reset with
       pending := s.pending, latched := t.latched, chanP := { state := t.chanP.state }, chanB := { state := t.chanB.state }
       bag := { offered := ⟨t.chanB.state, false, none⟩ }
       store := { audit := t.store.audit, work := t.store.work, serial := s.store.serial
                  current := t.store.current, nv := t.store.nv } })

/-- LANE_RESET is accepted in every state: no receipt, ticket, slip, expectation, pending weighing or print work is left, the Item Table
and the verifier take the states of R75 and R99, the link's queues grow only by the events and the reply, and everything else is kept.
That a scale fault added again is told with its event is log entry 18, the order of the events log entry 31, that no condition latches for
a sensor whose stop was still pending log entry 49. -/
def Obligations.LaneResetClearsTheLane : Prop :=
  ∀ (h : Header) (s : State), h.wellFormed = true → s.link.outstanding < 16 →
    ∃ t, exec (.laneReset h) s = .next t ∧
      Replied ⟨0x0F, h.tag, .ok,
        .laneResetDone s.receipt.number s.receipt.state s.receipt.tickets.length s.receipt.slips.length
          s.receipt.tenders.length (s.receipt.tenders.map (·.amount)).sum⟩ s t ∧
      t.link.run = s.link.run ∧ t.link.linkUp = s.link.linkUp ∧ t.link.sent = s.link.sent ∧
      t.receipt = { s.receipt with
        state := .closed, tickets := [], slips := [], tenders := [], subtotal := 0, permit := false, permitOut := false
        marker := none } ∧
      t.pricing = { s.pricing with weighing := none, tickets := [], clearRequired := false } ∧
      t.chanP = { s.chanP with
        operatorTare := 0, itemTare := none, reading := t.chanP.reading, slot := t.chanP.slot, baseline := t.chanP.baseline } ∧
      (s.chanP.reading = none → t.chanP.reading = none) ∧
      (∀ r, s.chanP.reading = some r → ∃ r', t.chanP.reading = some r' ∧ Reweighed s.met .P t.chanP r r') ∧
      t.chanB = { s.chanB with slot := t.chanB.slot, baseline := t.chanB.baseline } ∧
      (∀ c, (s.chan c).mode ≠ .onChange →
        (t.chan c).slot = (s.chan c).slot ∧ (t.chan c).baseline = (s.chan c).baseline) ∧
      t.card = { s.card with
        port := .disarmed, attempts := 0, armDue := none, buffer := none, slips := []
        rx := { s.card.rx with destination := .skip } } ∧
      (s.items.state = .empty ∨ s.items.state = .sealed → t.items = s.items) ∧
      (s.items.state = .staging → t.items = { s.items with standby := [], state := .empty, check := none }) ∧
      (s.items.state = .commitPending → t.items =
        ⟨s.items.standby, if 65535 ≤ s.items.generation then 1 else s.items.generation + 1, [], .empty, none⟩) ∧
      t.bag = { s.bag with
        queue := [], wref := none, holdReference := none, lightOn := t.bag.lightOn, lightDue := t.bag.lightDue
        reasons := ⟨false, false, false,
          decide (s.receipt.mode = .selfService ∧ (s.chanB.state ≠ .ready ∨ overloadB s = true))⟩ } ∧
      (t.bag.reasons.any = s.bag.reasons.any → t.bag.lightOn = s.bag.lightOn ∧ t.bag.lightDue = s.bag.lightDue) ∧
      (t.bag.reasons.any = false → s.bag.reasons.any = true → t.bag.lightOn = false ∧ t.bag.lightDue = none) ∧
      (t.bag.reasons.any = true → s.bag.reasons.any = false →
        t.bag.lightOn = true ∧ t.bag.lightDue = some (after s.now 500)) ∧
      t.composer = ⟨[], [], s.composer.owed + recordCount s.composer⟩ ∧
      t.mech = { s.mech with
        state := if s.mech.paperOut = true ∨ s.mech.coverOpen = true then .stopped else .idle
        reason := if s.mech.paperOut = true then some (.sensor .paperOut)
          else if s.mech.coverOpen = true then some (.sensor .coverOpen) else none
        stops := [], hold := .released, stepperUnits := none, lingerDue := none, done := 0, row := none, flushed := false
        jamDue := none } ∧
      t.rail = { s.rail with drawer := {}, cutter := {}, stepper := {}, head := {} } ∧
      t.pgH = { s.pgH with phase := .idle, due := none } ∧ t.pgD = { s.pgD with phase := .idle, due := none } ∧
      t.drawer = { s.drawer with
        authorization := none, retriesLeft := 0, attempts := 0, confirmDue := none, openedInPulse := none
        polarity := s.params.drawerPolarity, state := if s.sensorOpen = true then .opened else .closed
        openStamp := t.drawer.openStamp, cause := t.drawer.cause, tooLong := t.drawer.tooLong } ∧
      (s.sensorOpen = false →
        t.drawer.openStamp = none ∧ t.drawer.cause = none ∧ t.drawer.tooLong = false) ∧
      (s.sensorOpen = true → s.drawer.state = .opened →
        t.drawer.openStamp = s.drawer.openStamp ∧ t.drawer.cause = s.drawer.cause ∧
        t.drawer.tooLong = s.drawer.tooLong) ∧
      (s.sensorOpen = true → s.drawer.state ≠ .opened →
        t.drawer.openStamp = some (s.drawer.openedInPulse.getD s.now) ∧ t.drawer.cause = some .release ∧
        t.drawer.tooLong = false) ∧
      Told [] ((if s.items.state = .commitPending then
            [.lane (.tableSwitched t.items.generation (sealedCheck s.items).1 (sealedCheck s.items).2)] else []) ++
          (if t.bag.reasons.scaleFault = true then
            [.bag (.scaleFault s.chanB.state (overloadB s)) t.bag.reasons none] else []) ++
          (if s.bag.reasons.any = false ∧ t.bag.reasons.any = true then [.bag .holdEntered t.bag.reasons none] else []) ++
          (if s.bag.reasons.any = true ∧ t.bag.reasons.any = false then
            [.bag (.holdCleared .laneReset s.bag.reasons) t.bag.reasons none] else [])) s t ∧
      sameOutside [.link, .latched, .chanP, .chanB, .pricing, .items, .bag, .card, .receipt, .composer, .mech, .rail,
        .pgH, .pgD, .drawer] s t = true

/-! ### Weighing channels -/

/-- ZERO: the refusals in their order, and the accepted request (R12). -/
def Obligations.ZeroIsJudgedAndActs : Prop :=
  ∀ (h : Header) (s : State), h.wellFormed = true → s.link.outstanding < 16 →
    exec (.zero h none) s = .next (replied ⟨0x01, h.tag, .badRequest, .none⟩ s) ∧
    ∀ c : Chan,
      ((s.chan c).state ≠ .ready →
        exec (.zero h (some c)) s = .next (replied ⟨0x01, h.tag, .wrongState, .none⟩ s)) ∧
      ∀ r, (s.chan c).state = .ready → (s.chan c).reading = some r →
        (r.stable = false →
          exec (.zero h (some c)) s = .next (replied ⟨0x01, h.tag, .notStable, .none⟩ s)) ∧
        (r.stable = true → (s.chan c).tare ≠ 0 →
          exec (.zero h (some c)) s = .next (replied ⟨0x01, h.tag, .wrongState, .none⟩ s)) ∧
        (r.stable = true → (s.chan c).tare = 0 →
          maxOf s.met c < ((r.g - (s.chan c).zInit).natAbs : Int) * 50 →
          exec (.zero h (some c)) s = .next (replied ⟨0x01, h.tag, .outOfRange, .none⟩ s)) ∧
        (r.stable = true → (s.chan c).tare = 0 →
          ((r.g - (s.chan c).zInit).natAbs : Int) * 50 ≤ maxOf s.met c →
          ∃ t r', exec (.zero h (some c)) s = .next t ∧ Replied ⟨0x01, h.tag, .ok, .none⟩ s t ∧
            (t.chan c).zOp = r.g ∧ (t.chan c).zInit = (s.chan c).zInit ∧
            (t.chan c).aztStart = (s.chan c).aztStart.map (fun _ => s.now) ∧
            (t.chan c).stability = (s.chan c).stability.map (fun x => x + (s.chan c).zOp - r.g) ∧
            (t.chan c).reading = some r' ∧ Reweighed s.met c (t.chan c) r r' ∧ r'.gross = 0 ∧ r'.net = 0 ∧
            (∀ d, d ≠ c → t.chan d = s.chan d) ∧ sameOutside [.link, .chanP, .chanB] s t = true)

/-- TARE, TARE_PRESET and TARE_CLEAR: the refusals in their order, and the accepted requests (R14, R15). -/
def Obligations.TareRequestsAreJudgedAndAct : Prop :=
  ∀ (h : Header) (s : State) (v : Int), h.wellFormed = true → s.link.outstanding < 16 →
    (∀ c, c ≠ some Chan.P →
      exec (.tare h c) s = .next (replied ⟨0x02, h.tag, .badRequest, .none⟩ s) ∧
      exec (.tarePreset h c v) s = .next (replied ⟨0x03, h.tag, .badRequest, .none⟩ s) ∧
      exec (.tareClear h c) s = .next (replied ⟨0x04, h.tag, .badRequest, .none⟩ s)) ∧
    (s.chanP.state ≠ .ready ∨ s.chanP.itemTare.isSome = true →
      exec (.tare h (some .P)) s = .next (replied ⟨0x02, h.tag, .wrongState, .none⟩ s) ∧
      exec (.tarePreset h (some .P) v) s = .next (replied ⟨0x03, h.tag, .wrongState, .none⟩ s)) ∧
    (∀ r, s.chanP.state = .ready → s.chanP.itemTare = none → s.chanP.reading = some r →
      (r.stable = false →
        exec (.tare h (some .P)) s = .next (replied ⟨0x02, h.tag, .notStable, .none⟩ s)) ∧
      (r.stable = true → r.gross < s.met.pE1 ∨ s.met.pMax1 < r.gross →
        exec (.tare h (some .P)) s = .next (replied ⟨0x02, h.tag, .outOfRange, .none⟩ s)) ∧
      (r.stable = true → s.met.pE1 ≤ r.gross → r.gross ≤ s.met.pMax1 →
        ∃ t r', exec (.tare h (some .P)) s = .next t ∧ Replied ⟨0x02, h.tag, .ok, .none⟩ s t ∧
          t.chanP.operatorTare = s.met.pE1 * ((r.gross + s.met.pE1 / 2) / s.met.pE1) ∧ t.chanP.aztStart = none ∧
          (0 < s.met.pE1 → t.chanP.tareSource = .operator) ∧
          t.chanP.reading = some r' ∧ Reweighed s.met .P t.chanP r r' ∧
          sameOutside [.link, .chanP] s t = true)) ∧
    (s.chanP.state = .ready → s.chanP.itemTare = none →
      v < 0 ∨ s.met.pMax1 < s.met.pE1 * ((v + s.met.pE1 / 2) / s.met.pE1) →
        exec (.tarePreset h (some .P) v) s = .next (replied ⟨0x03, h.tag, .outOfRange, .none⟩ s)) ∧
    (∀ w, w = s.met.pE1 * ((v + s.met.pE1 / 2) / s.met.pE1) → s.chanP.state = .ready → s.chanP.itemTare = none →
      0 ≤ v → w ≤ s.met.pMax1 →
        ∃ t, exec (.tarePreset h (some .P) v) s = .next t ∧ Replied ⟨0x03, h.tag, .ok, .operatorTare w⟩ s t ∧
          t.chanP.operatorTare = w ∧ t.chanP.tareSource = (if w = 0 then .none else .operator) ∧
          (∀ r, s.chanP.reading = some r → ∃ r', t.chanP.reading = some r' ∧ Reweighed s.met .P t.chanP r r') ∧
          sameOutside [.link, .chanP] s t = true) ∧
    ∃ t, exec (.tareClear h (some .P)) s = .next t ∧ Replied ⟨0x04, h.tag, .ok, .none⟩ s t ∧
      t.chanP.operatorTare = 0 ∧ t.chanP.itemTare = s.chanP.itemTare ∧ t.chanP.tare = s.chanP.itemTare.getD 0 ∧
      t.chanP.tareSource = (if s.chanP.itemTare.isSome then .item else .none) ∧
      (∀ r, s.chanP.reading = some r → ∃ r', t.chanP.reading = some r' ∧ Reweighed s.met .P t.chanP r r') ∧
      sameOutside [.link, .chanP] s t = true

/-- REPORT_MODE in its three modes, the periodic report at its due time, the comparison of ON_CHANGE at a sample arrival and at the silence
expiry, and the values of every report placed. -/
def Obligations.ReportsFollowTheirMode : Prop :=
  ∀ (h : Header) (c : Chan) (s : State),
    (h.wellFormed = true → s.link.outstanding < 16 →
      (∃ t, exec (.reportMode h (some c) (some .off)) s = .next t ∧ Replied ⟨0x0A, h.tag, .ok, .none⟩ s t ∧
        (t.chan c).mode = .off ∧ (t.chan c).slot = none ∧ (t.chan c).baseline = none ∧ (t.chan c).due = none ∧
        sameOutside [.link, .chanP, .chanB] s t = true) ∧
      (∃ t w, exec (.reportMode h (some c) (some .onChange)) s = .next t ∧ Replied ⟨0x0A, h.tag, .ok, .none⟩ s t ∧
        (t.chan c).mode = .onChange ∧ (t.chan c).slot = some w ∧ (t.chan c).baseline = some w ∧ ReportOf s c w ∧
        sameOutside [.link, .chanP, .chanB] s t = true) ∧
      ∀ n, (1 ≤ n → n ≤ 200 →
          ∃ t w, exec (.reportMode h (some c) (some (.periodic n))) s = .next t ∧
            Replied ⟨0x0A, h.tag, .ok, .none⟩ s t ∧
            (t.chan c).mode = .periodic n ∧ (t.chan c).due = some (after s.now (n * 50)) ∧
            (t.chan c).slot = some w ∧ (t.chan c).baseline = some w ∧ ReportOf s c w ∧
            sameOutside [.link, .chanP, .chanB] s t = true) ∧
        (n < 1 ∨ 200 < n →
          exec (.reportMode h (some c) (some (.periodic n))) s =
            .next (replied ⟨0x0A, h.tag, .outOfRange, .none⟩ s))) ∧
    (∀ n due, (s.chan c).mode = .periodic n → (s.chan c).due = some due → reached s.now due = true →
      ∃ t w, exec (.periodicReport c) s = .next t ∧ (t.chan c).slot = some w ∧ (t.chan c).baseline = some w ∧
        ReportOf s c w ∧ (t.chan c).due = some (after due (n * 50)) ∧
        (∀ d, d ≠ c → t.chan d = s.chan d) ∧ sameOutside [.chanP, .chanB] s t = true) ∧
    (∀ cmd, (s.chan c).state ≠ .off → (∃ raw, cmd = .sampleArrival c raw) ∨
        (cmd = .silenceExpiry c ∧ ∃ start, (s.chan c).silenceStart = some start ∧ 100 ≤ age s.now start) →
      ∃ t, exec cmd s = .next t ∧
        ((s.chan c).mode ≠ .onChange →
          (t.chan c).slot = (s.chan c).slot ∧ (t.chan c).baseline = (s.chan c).baseline) ∧
        ((s.chan c).mode = .onChange →
          ∃ w, ReportOf t c w ∧
            (∀ b, (s.chan c).baseline = some b → AgreeOnChange w b →
              (t.chan c).slot = (s.chan c).slot ∧ (t.chan c).baseline = some b) ∧
            ((∀ b, (s.chan c).baseline = some b → ¬AgreeOnChange w b) →
              (t.chan c).slot = some w ∧ (t.chan c).baseline = some w)))

/-- A rail code and the silence measure's expiry stop a channel that is not OFF, which keeps its zero and its tares; under the fault seven
good samples are counted and the eighth ends it. -/
def Obligations.SignalFaultBeginsAndEnds : Prop :=
  (∀ (c : Chan) (s : State) (cmd : Instr), (s.chan c).state ≠ .off →
     (cmd = .sampleArrival c 8388607 ∨ cmd = .sampleArrival c (-8388608) ∨
       (cmd = .silenceExpiry c ∧ ∃ start, (s.chan c).silenceStart = some start ∧ 100 ≤ age s.now start)) →
     ∃ t, exec cmd s = .next t ∧ Condition.signalFault c ∈ t.latched ∧
       (t.chan c).signalFault = true ∧ (t.chan c).goodRun = 0 ∧
       (t.chan c).state = (if (s.chan c).state = .uncalibrated then .uncalibrated else .fault) ∧
       ((s.chan c).state ≠ .fault → (t.chan c).filter = []) ∧
       ((s.chan c).state ≠ .fault → (s.chan c).state ≠ .uncalibrated →
         (t.chan c).stability = [] ∧ (t.chan c).stable = false ∧ (t.chan c).reading = none ∧
         (t.chan c).aztStart = none) ∧
       (t.chan c).zInit = (s.chan c).zInit ∧ (t.chan c).zOp = (s.chan c).zOp ∧
       (t.chan c).operatorTare = (s.chan c).operatorTare ∧ (t.chan c).itemTare = (s.chan c).itemTare ∧
       (t.chan c).zeroEstablished = (s.chan c).zeroEstablished ∧
       (t.chan c).silenceStart = (if cmd = .silenceExpiry c then none else some s.now) ∧
       (∀ d, d ≠ c → t.chan d = s.chan d) ∧
       (c = .P → sameOutside [.latched, .chanP] s t = true) ∧
       sameOutside [.latched, .chanP, .chanB, .bag, .link] s t = true) ∧
  (∀ (c : Chan) (raw : Int) (s : State), raw ≠ 8388607 → raw ≠ -8388608 →
     ((s.chan c).state = .off → exec (.sampleArrival c raw) s = .next s) ∧
     ((s.chan c).state = .fault ∨ (s.chan c).state = .uncalibrated → (s.chan c).signalFault = true →
       ∃ t, exec (.sampleArrival c raw) s = .next t ∧ (t.chan c).lastSample = s.now ∧
         (t.chan c).zInit = (s.chan c).zInit ∧ (t.chan c).zOp = (s.chan c).zOp ∧
         (t.chan c).tare = (s.chan c).tare ∧
         ((s.chan c).goodRun < 7 → (t.chan c).goodRun = (s.chan c).goodRun + 1 ∧ (t.chan c).signalFault = true ∧
           (t.chan c).filter = (s.chan c).filter ∧ (t.chan c).state = (s.chan c).state) ∧
         ((s.chan c).goodRun = 7 → (t.chan c).goodRun = 0 ∧ (t.chan c).signalFault = false ∧
           (t.chan c).filter = [raw] ∧
           (t.chan c).state = (if (s.chan c).state = .fault then .filling else .uncalibrated)) ∧
         (∀ d, d ≠ c → t.chan d = s.chan d) ∧
         sameOutside [.chanP, .chanB, .bag, .link, .latched] s t = true))

/-- A good sample enters the filter window; one that fills it in FILLING, ZEROING or READY makes the current reading from the filtered
value, the calibration record, the operating zero and the tare. FILLING is left for READY or ZEROING, a stable arrival in ZEROING attempts
the initial zero, an arrival in READY tracks the zero and has its limits judged. The reading of channel P then resets clear-required when
it passes the clear test, and makes the automatic lock of a pending weighing when every check passes, with its ticket, SCALE_LOCKED and
the expectation of SELF mode; otherwise nothing is told and nothing else of the Pricing Unit changes. That the verifier keeps what channel
B offers is a field of the model's own, log entry 36. -/
def Obligations.ReadyArrivalMakesTheReading : Prop :=
  ∀ (c : Chan) (raw : Int) (s : State) (zCal : Int) (span : Nat) (window : List Int),
    raw ≠ 8388607 → raw ≠ -8388608 → (s.chan c).state = .filling ∨ (s.chan c).state = .zeroing ∨ (s.chan c).state = .ready →
    (s.chan c).signalFault = false → window = pushWindow (filterLenOf s.met c) (s.chan c).filter raw →
    (calOf s.store.work c).zCal = some zCal → (calOf s.store.work c).span = some span →
    (window.length ≠ filterLenOf s.met c →
      ∃ t, exec (.sampleArrival c raw) s = .next t ∧ (∀ d, d ≠ c → t.chan d = s.chan d) ∧
        t.chan c = { s.chan c with
          filter := window, lastSample := s.now, silenceStart := some s.now, slot := (t.chan c).slot
          baseline := (t.chan c).baseline } ∧
        sameOutside [.chanP, .chanB] s t = true) ∧
    (window.length = filterLenOf s.met c →
      ∃ (t : State) (r : Reading) (entered : ChanState) (g gross : Int) (stable : Bool),
        exec (.sampleArrival c raw) s = .next t ∧ (t.chan c).filter = window ∧
        (t.chan c).counts = pushWindow s.met.stabWindow (s.chan c).counts (filtered (filterLenOf s.met c) window) ∧
        entered = (if (s.chan c).state = .filling then (if (s.chan c).zeroEstablished then .ready else .zeroing)
          else (s.chan c).state) ∧
        g = rawGross zCal span (filtered (filterLenOf s.met c) window) ∧ gross = clamp32 (g - (s.chan c).zOp) ∧
        (stable = true ↔ (pushWindow s.met.stabWindow (s.chan c).stability gross).length = s.met.stabWindow ∧
          spread (pushWindow s.met.stabWindow (s.chan c).stability gross) ≤ bandOf s.met c) ∧
        (t.chan c).stable = stable ∧
        (t.chan c).stableSince =
          (if stable then (if (s.chan c).stable then (s.chan c).stableSince else some s.now) else none) ∧
        (t.chan c).stability =
          (pushWindow s.met.stabWindow (s.chan c).stability gross).map (fun x => x + (s.chan c).zOp - (t.chan c).zOp) ∧
        (entered = .zeroing →
          (stable = true → (g.natAbs : Int) * 10 ≤ maxOf s.met c →
            (t.chan c).state = .ready ∧ (t.chan c).zInit = g ∧ (t.chan c).zOp = g ∧
            (t.chan c).zeroEstablished = true ∧ (t.chan c).zeroFailed = false) ∧
          (stable = true → maxOf s.met c < (g.natAbs : Int) * 10 →
            (t.chan c).state = .zeroing ∧ (t.chan c).zInit = (s.chan c).zInit ∧ (t.chan c).zOp = (s.chan c).zOp ∧
            (t.chan c).zeroFailed = true ∧ Condition.zeroRange c ∈ t.latched) ∧
          (stable = false → (t.chan c).state = .zeroing ∧ (t.chan c).zInit = (s.chan c).zInit ∧
            (t.chan c).zOp = (s.chan c).zOp ∧ (t.chan c).zeroEstablished = (s.chan c).zeroEstablished)) ∧
        (entered = .ready →
          (t.chan c).state = .ready ∧ (t.chan c).zInit = (s.chan c).zInit ∧
          (t.chan c).zeroEstablished = (s.chan c).zeroEstablished ∧
          (s.met.aztEnable = false ∨ stable = false ∨ (s.chan c).tare ≠ 0 ∨ e1Of s.met c / 2 < (gross.natAbs : Int) →
            (t.chan c).aztStart = none ∧ (t.chan c).zOp = (s.chan c).zOp) ∧
          (s.met.aztEnable = true → stable = true → (s.chan c).tare = 0 → (gross.natAbs : Int) ≤ e1Of s.met c / 2 →
            ((s.chan c).aztStart = none →
              (t.chan c).aztStart = some s.now ∧ (t.chan c).zOp = (s.chan c).zOp) ∧
            ∀ start, (s.chan c).aztStart = some start →
              (age s.now start < 1000 → (t.chan c).aztStart = some start ∧ (t.chan c).zOp = (s.chan c).zOp) ∧
              (1000 ≤ age s.now start → (t.chan c).aztStart = some s.now ∧
                (((g - (s.chan c).zInit).natAbs : Int) ≤ maxOf s.met c / 50 → (t.chan c).zOp = g) ∧
                (maxOf s.met c / 50 < ((g - (s.chan c).zInit).natAbs : Int) → Condition.zeroLimit c ∈ t.latched ∧
                  (t.chan c).zOp = (s.chan c).zInit +
                    (if (s.chan c).zInit < g then maxOf s.met c / 50 else -(maxOf s.met c / 50)))))) ∧
        r.state = (t.chan c).state ∧ r.g = g ∧ r.gross = clamp32 (g - (t.chan c).zOp) ∧ r.tare = (s.chan c).tare ∧
        r.source = (s.chan c).tareSource ∧ r.net = clamp32 (r.gross - (s.chan c).tare) ∧
        r.interval = intervalOf s.met c r.net ∧ r.stamp = s.now ∧ r.stable = stable ∧
        r.stableSince = (t.chan c).stableSince ∧
        (r.overload = true ↔ (t.chan c).state = .ready ∧ maxOf s.met c + 9 * e2Of s.met c < r.gross) ∧
        (r.underload = true ↔ (t.chan c).state = .ready ∧ r.gross < -(20 * e1Of s.met c)) ∧
        r.nd = (if (t.chan c).state = .ready ∧ r.overload = false ∧ r.underload = false then
          some (roundAway (divisionOf s.met c r.net) r.net) else none) ∧
        r.grossRounded = (if (t.chan c).state = .ready ∧ r.overload = false ∧ r.underload = false then
          some (roundAway (divisionOf s.met c r.gross) r.gross) else none) ∧
        (r.overload = true → Condition.overload c ∈ t.latched) ∧
        (r.underload = true → Condition.underload c ∈ t.latched) ∧
        (t.chan c).operatorTare = (s.chan c).operatorTare ∧
        (c = .B → (t.chan c).reading = some r ∧ (t.chan c).itemTare = (s.chan c).itemTare ∧ t.pricing = s.pricing ∧
          t.bag.offered = ⟨(t.chan c).state, stable, r.nd⟩) ∧
        (c = .P → (∀ w nd, ¬AutoLocks s r w nd) →
          (t.chan c).reading = some r ∧ (t.chan c).itemTare = (s.chan c).itemTare ∧ t.bag = s.bag ∧ t.link = s.link ∧
          (ClearTest s.met r → t.pricing = { s.pricing with clearRequired := false }) ∧
          (¬ClearTest s.met r → t.pricing = s.pricing)) ∧
        (∀ w nd, c = .P → AutoLocks s r w nd →
          ∃ k r', LockMade w r nd k s t ∧ (t.chan c).reading = some r' ∧ Reweighed s.met .P t.chanP r r' ∧
            (t.chan c).itemTare = none ∧ Placed [.scaleLocked k] s t ∧ t.link = { s.link with alerts := t.link.alerts } ∧
            (Condition.alertOverflow ∈ t.latched ↔
              Condition.alertOverflow ∈ s.latched ∨ 24 ≤ s.link.alerts.length)) ∧
        (∀ d, d ≠ c → t.chan d = s.chan d) ∧
        sameOutside [.latched, .chanP, .chanB, .pricing, .bag, .link] s t = true)

/-- The rounded net is the nearest multiple of the division, halves away from zero; the tare is the nearest multiple, halves up; the
filtered value is the nearest whole number to the mean, halves up; the price is the nearest multiple of the price step, halves up. -/
def Obligations.RoundingAndPriceAreToNearest : Prop :=
  ((∀ e x : Int, 0 < e → e % 2 = 0 →
     e ∣ roundAway e x ∧ 2 * ((roundAway e x - x).natAbs : Int) ≤ e ∧
     (2 * ((roundAway e x - x).natAbs : Int) = e → x.natAbs < (roundAway e x).natAbs)) ∧
   (∀ e x : Int, 0 < e → e % 2 = 0 →
     e ∣ roundHalfUp e x ∧ 2 * ((roundHalfUp e x - x).natAbs : Int) ≤ e ∧
     (2 * ((roundHalfUp e x - x).natAbs : Int) = e → x < roundHalfUp e x)) ∧
   (∀ (n : Nat) (w : List Int), 0 < n → n % 2 = 0 →
     2 * (((n : Int) * filtered n w - w.sum).natAbs : Int) ≤ n ∧
     (2 * (((n : Int) * filtered n w - w.sum).natAbs : Int) = n → w.sum < n * filtered n w))) ∧
  (∀ (w : Weighing) (nd : Int), 0 < w.step →
     w.step ∣ priceOf w nd ∧
     2 * (((priceOf w nd * basisDiv w.basis : Nat) : Int) - ((nd.toNat * w.price : Nat) : Int)).natAbs ≤
       w.step * basisDiv w.basis ∧
     (2 * (((priceOf w nd * basisDiv w.basis : Nat) : Int) - ((nd.toNat * w.price : Nat) : Int)).natAbs =
       w.step * basisDiv w.basis → nd.toNat * w.price < priceOf w nd * basisDiv w.basis))

/-! ### The Metrology Store and the parameters -/

/-- A metrology request that reaches checks 2 to 4: BUSY during a store write, SEALED with the seal switch CLOSED, AUDIT_FULL with the
counter exhausted, each with nothing changed. -/
def Obligations.MetrologyRequestsAreAdmittedInOrder : Prop :=
  ∀ (c : Instr) (h : Header) (code : Byte) (s : State), requestOf c = some (h, code) → isMetrologyRequest c = true →
    (∀ g w, c ≠ .calZero g none ∧ c ≠ .calSpan g none w) → h.wellFormed = true → s.link.outstanding < 16 →
    (s.store.writing = true → exec c s = .next (replied ⟨code, h.tag, .busy, .none⟩ s)) ∧
    (s.store.writing = false → s.store.sealOpen = false →
      exec c s = .next (replied ⟨code, h.tag, .sealed, .none⟩ s)) ∧
    (s.store.writing = false → s.store.sealOpen = true → 65535 ≤ s.store.audit →
      exec c s = .next (replied ⟨code, h.tag, .auditFull, .none⟩ s))

/-- An accepted SET_PARAMETER on a metrology parameter: the working copy takes it, the audit counter grows by one, the store write
begins, the reply is held, the channels it affects change as R38 gives, channel B leaving READY is a scale fault, and a pending weighing
that the parameter bears on is cancelled with its event. One equal to the value in force is answered as unchanged. That store current
keeps its value while the write is in flight is log entry 24, that the unchanged answer comes after the checks log entry 25; that a
PRICE_STEP change which cancels a weighing removes the operator tare, and one without a weighing leaves it, is log entry 39. -/
def Obligations.MetrologyParameterIsAccepted : Prop :=
  ∀ (h : Header) (name : ParamName) (v : Int) (m : MetParams) (s : State),
    h.wellFormed = true → s.link.outstanding < 16 → isMetrology name = true →
    s.store.writing = false → s.store.sealOpen = true → s.store.audit < 65535 →
    metrologySet name v s.met = some m → metrologyFits m = true →
    (m = s.met → s.store.current = true →
      exec (.setParameter h name v) s = .next (replied ⟨0x04, h.tag, .ok, .unchangedParameter name v⟩ s)) ∧
    (m ≠ s.met ∨ s.store.current = false →
      ∃ t, exec (.setParameter h name v) s = .next t ∧
        t.store = { s.store with
          work := { s.store.work with params := m }, audit := s.store.audit + 1, writing := true
          held := some ⟨0x04, h.tag, .metrologyParameter name v (s.store.audit + 1)⟩ } ∧
        settableValue name t = some v ∧
        t.link.replies = s.link.replies ∧ t.link.outstanding = s.link.outstanding + 1 ∧
        (name = .pMax ∨ name = .pMax1 ∨ name = .pE1 ∨ name = .pE2 ∨ name = .filterLenP ∨ name = .stabWindow ∨
            name = .stabBand ∨ name = .aztEnable →
          ChangedBy .P (calValid s.store.work.calP) (name == .filterLenP) s.chanP t.chanP) ∧
        (name = .bMax ∨ name = .bE ∨ name = .filterLenB ∨ name = .stabWindow ∨ name = .stabBand ∨ name = .aztEnable →
          ChangedBy .B (calValid s.store.work.calB) (name == .filterLenB) s.chanB t.chanB ∧
          (s.receipt.mode = .attended → t.bag.reasons = s.bag.reasons) ∧
          (s.receipt.mode = .selfService → s.chanB.state = .ready →
            t.bag.reasons = { s.bag.reasons with scaleFault := true } ∧ t.bag.wref = s.bag.wref ∧
            t.bag.holdReference = s.bag.holdReference ∧ t.bag.queue = s.bag.queue)) ∧
        (name = .stabWindow → t.chanP.counts = [] ∧ t.chanB.counts = []) ∧
        (name ≠ .bMax → name ≠ .bE → name ≠ .filterLenB →
          t.pricing = { s.pricing with weighing := none } ∧
          ∀ w, s.pricing.weighing = some w → t.chanP.itemTare = none ∧
            (s.link.alerts.length < 22 → ⟨s.now, .weighingCancelled w.itemCode .metrology⟩ ∈ t.link.alerts)) ∧
        (name = .bMax ∨ name = .bE ∨ name = .filterLenB → t.chanP = s.chanP ∧ t.pricing = s.pricing) ∧
        (name = .pMax ∨ name = .pMax1 ∨ name = .pE1 ∨ name = .pE2 ∨ name = .filterLenP ∨ name = .priceStep →
          t.chanB = s.chanB ∧ t.bag = s.bag) ∧
        (name = .priceStep → t.chanP.state = s.chanP.state ∧ t.chanP.filter = s.chanP.filter ∧
          t.chanP.stability = s.chanP.stability ∧ t.chanP.zeroEstablished = s.chanP.zeroEstablished ∧
          (s.pricing.weighing = none → t.chanP = s.chanP) ∧
          (s.pricing.weighing.isSome = true → t.chanP.operatorTare = 0 ∧ t.chanP.tare = 0 ∧ t.chanP.tareSource = .none)) ∧
        sameOutside [.link, .latched, .store, .chanP, .chanB, .pricing, .bag] s t = true)

/-- CAL_ZERO and CAL_SPAN with every check passed, in UNCALIBRATED, ZEROING and READY: the calibration record takes the count or the
Span, a channel whose record is valid restarts its zero and one whose record is not stays UNCALIBRATED, channel P loses its operator
tare, and the reply is held. -/
def Obligations.CalibrationIsAccepted : Prop :=
  ∀ (h : Header) (c : Chan) (w : Int) (s : State),
    h.wellFormed = true → s.link.outstanding < 16 →
    s.store.writing = false → s.store.sealOpen = true → s.store.audit < 65535 →
    (s.chan c).state = .uncalibrated ∨ (s.chan c).state = .zeroing ∨ (s.chan c).state = .ready →
    (s.chan c).filter.length = filterLenOf s.met c →
    (s.chan c).counts.length = s.met.stabWindow → spread (s.chan c).counts ≤ 8 →
    (∃ t, exec (.calZero h (some c)) s = .next t ∧
      (calOf t.store.work c).zCal = some ((s.chan c).counts.getLastD 0) ∧
      (calOf t.store.work c).span = (calOf s.store.work c).span ∧
      t.store.held = some ⟨0x0D, h.tag, .calZeroed ((s.chan c).counts.getLastD 0)
        (calOf s.store.work c).span.isSome (s.store.audit + 1)⟩ ∧
      t.store.audit = s.store.audit + 1 ∧ t.store.writing = true ∧ t.store.work.params = s.store.work.params ∧
      ((s.chan c).state ≠ .uncalibrated ∨ (calOf s.store.work c).span.isSome = true →
        (t.chan c).state = .zeroing ∧ (t.chan c).stability = [] ∧ (t.chan c).stable = false) ∧
      ((s.chan c).state = .uncalibrated → (calOf s.store.work c).span = none → (t.chan c).state = .uncalibrated) ∧
      (t.chan c).reading = none ∧
      (t.chan c).zeroEstablished = false ∧ (t.chan c).counts = (s.chan c).counts ∧
      (t.chan c).filter = (s.chan c).filter ∧ (c = .P → t.chanP.operatorTare = 0 ∧ t.pricing.weighing = none) ∧
      t.link.replies = s.link.replies ∧ t.link.outstanding = s.link.outstanding + 1 ∧
      (∀ d, d ≠ c → t.chan d = s.chan d ∧ calOf t.store.work d = calOf s.store.work d) ∧
      sameOutside [.link, .latched, .store, .chanP, .chanB, .pricing, .bag] s t = true) ∧
    (∀ zCal d, (calOf s.store.work c).zCal = some zCal → d = (s.chan c).counts.getLastD 0 - zCal →
      10000 ≤ d → 1000 ≤ w → w ≤ 60000000 → (2 * w * 2 ^ 24 + d) / (2 * d) ≤ 4294967295 →
      ∃ t, exec (.calSpan h (some c) w) s = .next t ∧
        (calOf t.store.work c).zCal = some zCal ∧
        (calOf t.store.work c).span = some ((2 * w * 2 ^ 24 + d) / (2 * d)).toNat ∧
        t.store.held = some ⟨0x0E, h.tag, .calSpanned ((2 * w * 2 ^ 24 + d) / (2 * d)).toNat (s.store.audit + 1)⟩ ∧
        t.store.audit = s.store.audit + 1 ∧ t.store.writing = true ∧ t.store.work.params = s.store.work.params ∧
        (t.chan c).state = .zeroing ∧ (t.chan c).stability = [] ∧ (t.chan c).reading = none ∧
        (t.chan c).zeroEstablished = false ∧ (t.chan c).counts = (s.chan c).counts ∧
        (c = .P → t.chanP.operatorTare = 0 ∧ t.pricing.weighing = none) ∧
        t.link.replies = s.link.replies ∧
        (∀ e, e ≠ c → t.chan e = s.chan e ∧ calOf t.store.work e = calOf s.store.work e) ∧
        sameOutside [.link, .latched, .store, .chanP, .chanB, .pricing, .bag] s t = true)

/-- The end of a store write decides store current, STORE_FAULT and the held reply. A settled level of the seal switch becomes the seal
state, and a change after the first settling is told with the audit counter. That the command carries the read-back, and that the areas
then hold it, is the model's choice, log entry 23; that an audit area read back good with another count is kept bad is log entry 38; the
bytes of the two areas, over which their CRC-16 is taken, are log entry 37. -/
def Obligations.StoreWriteCompletesAndSealIsRead : Prop :=
  (∀ (nv : NvAreas) (s : State), s.store.writing = true →
     ∃ t, exec (.storeWriteComplete nv) s = .next t ∧
       t.store = { s.store with
         writing := false, held := none, nv := t.store.nv
         current := decide (nv = writtenAreas s.store.audit s.store.work) } ∧
       t.store.nv.metrology = nv.metrology ∧
       (readAudit nv.audit = none ∨ readAudit nv.audit = some s.store.audit → t.store.nv = nv) ∧
       (readAudit nv.audit ≠ some s.store.audit → readAudit t.store.nv.audit = none) ∧
       (∀ x, x ∈ t.latched ↔
         (x = .storeFault ∧ nv ≠ writtenAreas s.store.audit s.store.work) ∨ x ∈ s.latched) ∧
       (s.store.held = none → t.link = s.link) ∧
       (∀ r, s.store.held = some r →
         t.link = { s.link with replies := s.link.replies ++ [⟨r.code, r.tag,
           if nv = writtenAreas s.store.audit s.store.work then .ok else .storeFault, r.body⟩] }) ∧
       sameOutside [.link, .latched, .store] s t = true) ∧
  (∀ (count : Nat) (a : MetrologyArea) (crc : BitVec 16),
     readAudit (writtenAreas count a).audit = some count ∧ readMetrology (writtenAreas count a).metrology = some a ∧
     (readAudit ⟨count, crc⟩ = if crc = crc16 [BitVec.ofNat 8 (count / 256), BitVec.ofNat 8 count] then some count
       else none) ∧
     (readMetrology ⟨a, crc⟩ = if crc = crc16 (metrologyBytes a) then some a else none)) ∧
  (∀ (high : Bool) (s : State), s.link.alerts.length < 24 →
     ∃ t, exec (.sealSwitchChange high) s = .next t ∧
       t.store = { s.store with sealOpen := high, sealSettled := true } ∧
       t.link.alerts = s.link.alerts ++
         (if s.store.sealSettled = true ∧ high ≠ s.store.sealOpen then
           [⟨s.now, .lane (if high then .sealOpened s.store.audit else .sealClosed s.store.audit)⟩] else []) ∧
       t.link.replies = s.link.replies ∧ t.link.outstanding = s.link.outstanding ∧
       sameOutside [.link, .store] s t = true)

/-- SET_PARAMETER on a parameter that is no metrology parameter: the value in force is answered without a change; a value outside its
range, or outside the constraints between the rail units or the roles, is refused; another comes into force, with the effect that its
chapter gives it, and every other part of the parameter set keeps its value. That a value which is no code of its parameter is out of
range is log entry 26; a settings write to an IDLE PG-D leaves older next-trigger settings by log entry 8; the condition that ATTENDANT_OFF
names after a change to NONE is log entry 47, the order of the expiries of a shorter REF_LIFETIME or PLACE_TIMEOUT log entry 19, and that
an accepted DRAWER_POLARITY is in force at once, also while DR_SOL is held at the one before it, log entry 50. -/
def Obligations.PlainParameterTakesItsValue : Prop :=
  ∀ (h : Header) (name : ParamName) (v old : Int) (s : State),
    h.wellFormed = true → s.link.outstanding < 16 → isMetrology name = false → settableValue name s = some old →
    (v = old →
      exec (.setParameter h name v) s = .next (replied ⟨0x04, h.tag, .ok, .parameter name (.value v)⟩ s)) ∧
    (v ≠ old → plainSet name v s.params = none →
      exec (.setParameter h name v) s = .next (replied ⟨0x04, h.tag, .outOfRange, .none⟩ s)) ∧
    (∀ p, v ≠ old → plainSet name v s.params = some p →
      (name = .railCapacity ∨ name = .drawerUnits ∨ name = .cutterUnits ∨ name = .stepperUnits ∨ name = .dotCurrent →
        (¬(p.drawerUnits + p.stepperUnits ≤ p.railCapacity / 2 ∧ p.cutterUnits + p.stepperUnits ≤ p.railCapacity / 2 ∧
            8 ≤ (p.railCapacity / 2 - p.stepperUnits) * 50 / p.dotCurrent) →
          exec (.setParameter h name v) s = .next (replied ⟨0x04, h.tag, .outOfRange, .none⟩ s)) ∧
        (p.drawerUnits + p.stepperUnits ≤ p.railCapacity / 2 → p.cutterUnits + p.stepperUnits ≤ p.railCapacity / 2 →
          8 ≤ (p.railCapacity / 2 - p.stepperUnits) * 50 / p.dotCurrent →
          (s.rail.stepper.phase ≠ .none ∧ ¬(p.drawerUnits + s.rail.stepper.units ≤ p.railCapacity / 2 ∧
              p.cutterUnits + s.rail.stepper.units ≤ p.railCapacity / 2 ∧
              8 ≤ (p.railCapacity / 2 - s.rail.stepper.units) * 50 / p.dotCurrent)) ∨
            (name = .railCapacity ∧ p.railCapacity < s.rail.granted) →
          exec (.setParameter h name v) s = .next (replied ⟨0x04, h.tag, .busy, .none⟩ s))) ∧
      (name = .holdLightLine ∨ name = .printerLightLine → p.holdLightLine.isSome = true →
        p.holdLightLine = p.printerLightLine →
        exec (.setParameter h name v) s = .next (replied ⟨0x04, h.tag, .outOfRange, .none⟩ s)) ∧
      (plainRefusal name p s = none →
        ∃ t, exec (.setParameter h name v) s = .next t ∧ t.params = p ∧ settableValue name t = some v ∧
          (∀ other, other ≠ name → isMetrology other = false → settableValue other t = settableValue other s) ∧
          Replied ⟨0x04, h.tag, .ok, .parameter name (.value v)⟩ s t ∧
          t.pending = s.pending ∧ t.clock = s.clock ∧ t.store = s.store ∧ t.lines = s.lines ∧
          (∀ c on, (name = .channelEnableP ∧ c = Chan.P ∧ on = p.channelEnableP) ∨
              (name = .channelEnableB ∧ c = Chan.B ∧ on = p.channelEnableB) →
            (on = false → t.chan c = { s.chan c with
              state := .off, filter := [], counts := [], stability := [], stable := false, stableSince := none
              reading := none, aztStart := none, signalFault := false, goodRun := 0, silenceStart := none
              slot := (t.chan c).slot, baseline := (t.chan c).baseline }) ∧
            (on = true → t.chan c = { s.chan c with
              state := if calValid (calOf s.store.work c) then .filling else .uncalibrated
              silenceStart := some s.now, slot := (t.chan c).slot, baseline := (t.chan c).baseline }) ∧
            (c = .B → s.receipt.mode = .selfService → t.bag.reasons = { s.bag.reasons with scaleFault := true }) ∧
            (c = .P → t.bag = s.bag) ∧ (∀ d, d ≠ c → t.chan d = s.chan d) ∧
            sameOutside [.link, .latched, .params, .chanP, .chanB, .bag] s t = true) ∧
          (name = .refLifetime →
            (∀ k, k ∈ t.pricing.tickets ↔ k ∈ s.pricing.tickets ∧ ∀ d ∈ s.pricing.tickets, d.number = k.number →
              d.state = .locked → age s.now d.lockTime < p.refLifetime * 1000) ∧
            (∀ x, x ∈ t.card.slips ↔ x ∈ s.card.slips ∧ ∀ d ∈ s.card.slips, d.id = x.id →
              d.state = .held → age s.now d.readTime < p.refLifetime * 1000) ∧
            sameOutside [.link, .latched, .params, .pricing, .card, .bag] s t = true) ∧
          (name = .placeTimeout →
            t.bag.queue = s.bag.queue.map (fun e =>
              if e.overdue = false ∧ p.placeTimeout * 1000 ≤ age s.now e.posted then { e with overdue := true } else e) ∧
            (t.bag.reasons.overdue = true ↔ s.bag.reasons.overdue = true ∨
              ∃ e ∈ s.bag.queue, e.overdue = false ∧ p.placeTimeout * 1000 ≤ age s.now e.posted) ∧
            sameOutside [.link, .latched, .params, .bag] s t = true) ∧
          (name = .railCapacity → t.ceff = (if s.rail.low then p.railCapacity / 2 else p.railCapacity) ∧
            (NoneWaiting s → rowPhase s ≠ some .reached → sameOutside [.link, .params] s t = true) ∧
            (s.rail.cutter.phase = .waiting → s.rail.drawer.phase ≠ .waiting →
              s.rail.granted + s.rail.cutter.units ≤ t.ceff → t.rail.cutter.phase = .granted)) ∧
          (name = .drawerPolarity →
            t.drawer = (if s.pgD.phase = .idle then { s.drawer with polarity := p.drawerPolarity } else s.drawer) ∧
            sameOutside [.link, .params, .drawer] s t = true) ∧
          (name = .drawerWait ∨ name = .drawerPulse →
            t.pgD = (if s.pgD.phase = .idle then { s.pgD with wait := p.drawerWait, pulse := p.drawerPulse }
              else { s.pgD with next := some (p.drawerWait, p.drawerPulse) }) ∧
            sameOutside [.link, .params, .pgD] s t = true) ∧
          (name = .drawerOpenLimit →
            (∀ stamp, s.drawer.openStamp = some stamp → s.drawer.state = .opened → s.drawer.tooLong = false →
              p.drawerOpenLimit * 1000 ≤ age s.now stamp →
              t.drawer = { s.drawer with tooLong := true } ∧
              Told [.openTooLong] [.drawer (.openTooLong (age s.now stamp) s.drawer.cause)] s t) ∧
            (s.drawer.state ≠ .opened ∨ s.drawer.tooLong = true → t.drawer = s.drawer ∧ Told [] [] s t) ∧
            sameOutside [.link, .latched, .params, .drawer] s t = true) ∧
          (name = .drawerSensorPolarity →
            (s.drawer.level = none → sameOutside [.link, .params] s t = true) ∧
            (∀ high, s.drawer.level = some high →
              (s.drawer.state = .closed → levelOpen p.drawerSensorPolarity high = true →
                t.drawer = { s.drawer with
                  state := .opened, cause := some .forced, openStamp := some s.now, tooLong := false } ∧
                Told [.forcedOpen] [.drawer .forcedOpen] s t) ∧
              (∀ stamp, s.drawer.state = .opened → s.drawer.openStamp = some stamp →
                levelOpen p.drawerSensorPolarity high = false →
                t.drawer = { s.drawer with state := .closed, cause := none, openStamp := none, tooLong := false } ∧
                Told [] [.drawer (.closed s.drawer.cause (age s.now stamp) s.drawer.tooLong)] s t))) ∧
          (∀ i, s.lines.directions.getLsbD i.val = true →
            (name = .holdLightLine → p.holdLightLine = some i → t.pinLevel i = s.bag.lightOn) ∧
            (name = .printerLightLine → p.printerLightLine = some i → t.pinLevel i = s.printerLight) ∧
            (p.holdLightLine ≠ some i → p.printerLightLine ≠ some i → t.pinLevel i = s.lines.latches.getLsbD i.val)) ∧
          (name = .attendantCondition →
            Told [] (if t.attendant = s.attendant then []
              else if t.attendant = true then [.lane (.attendantOn p.attendantCondition)]
              else [.lane (.attendantOff p.attendantCondition)]) s t ∧
            sameOutside [.link, .latched, .params] s t = true) ∧
          (name ≠ .channelEnableP → name ≠ .channelEnableB → name ≠ .refLifetime → name ≠ .placeTimeout →
            name ≠ .railCapacity → name ≠ .drawerPolarity → name ≠ .drawerWait → name ≠ .drawerPulse →
            name ≠ .drawerOpenLimit → name ≠ .drawerSensorPolarity → name ≠ .attendantCondition →
            exec (.setParameter h name v) s =
              .next (replied ⟨0x04, h.tag, .ok, .parameter name (.value v)⟩ (s.setParams p)))))

/-! ### The Pricing Unit -/

/-- WEIGH_ITEM by code and with an inline price, and WEIGH_CANCEL: the pending weighing and the item tare that follows it. -/
def Obligations.PendingWeighingOpensAndEnds : Prop :=
  ∀ (h : Header) (s : State), h.wellFormed = true → s.link.outstanding < 16 →
    (s.chanP.state ≠ .off → s.chanP.state ≠ .uncalibrated →
      (∀ code e, findEntry s.items.active code = some e →
        (e.attendantOnly = false ∨ s.receipt.mode = .attended ∨ s.attendant = true) →
        (∀ p, e.presetTare = some p → 0 ≤ p ∧ p % s.met.pE1 = 0 ∧ p ≤ s.met.pMax1) →
        ∃ t w, exec (.weighItem h code) s = .next t ∧
          Replied ⟨0x05, h.tag, .ok, .weighing s.pricing.weighing.isSome w⟩ s t ∧
          w.itemCode = e.code ∧ w.price = e.price ∧ w.basis = e.basis ∧ w.description = e.description ∧
          w.presetTare = e.presetTare ∧ w.autoLock = e.autoLock ∧ w.bagWeight = e.bagWeight ∧
          w.bagTolerance = e.bagTolerance ∧ w.attendantOnly = e.attendantOnly ∧
          w.generation = s.items.generation ∧ w.step = s.met.priceStep ∧
          t.pricing = { s.pricing with weighing := some w } ∧ t.chanP.itemTare = e.presetTare ∧
          (∀ r, s.chanP.reading = some r → ∃ r', t.chanP.reading = some r' ∧ Reweighed s.met .P t.chanP r r') ∧
          sameOutside [.link, .chanP, .pricing] s t = true) ∧
      (∀ (price : Int) (basis : Basis) (text : Text), 0 ≤ price → price ≤ 999999 → text.length ≤ 24 →
        s.receipt.mode = .attended →
        ∃ t w, exec (.weighItemInline h price (some basis) text) s = .next t ∧
          Replied ⟨0x05, h.tag, .ok, .weighing s.pricing.weighing.isSome w⟩ s t ∧
          w = ⟨0, price.toNat, basis, text, none, false, none, none, false, 0, s.met.priceStep⟩ ∧
          t.pricing = { s.pricing with weighing := some w } ∧ t.chanP.itemTare = none ∧
          t.chanP.operatorTare = s.chanP.operatorTare ∧
          sameOutside [.link, .chanP, .pricing] s t = true)) ∧
    (∀ w, s.pricing.weighing = some w →
      ∃ t, exec (.weighCancel h) s = .next t ∧ Replied ⟨0x06, h.tag, .ok, .weighCancelled w.itemCode⟩ s t ∧
        t.pricing = { s.pricing with weighing := none } ∧ t.chanP.itemTare = none ∧
        t.chanP.tare = s.chanP.operatorTare ∧ sameOutside [.link, .chanP, .pricing] s t = true) ∧
    (s.pricing.weighing = none →
      exec (.weighCancel h) s = .next (replied ⟨0x06, h.tag, .wrongState, .none⟩ s))

/-- LOCK with every check passed makes the ticket, with the expectation of SELF mode, clear-required, the event and the reply; it is refused
by the first check that fails. -/
def Obligations.LockIsJudgedInOrder : Prop :=
  (∀ (h : Header) (s : State) (w : Weighing) (r : Reading) (nd : Int),
     h.wellFormed = true → s.link.outstanding < 16 → s.pricing.weighing = some w → s.chanP.state = .ready →
     (s.receipt.mode = .attended ∨ s.receipt.state = .opened ∨ s.receipt.state = .tendering) →
     s.verifier ≠ .hold → s.pricing.clearRequired = false →
     s.chanP.reading = some r → r.stable = true → r.nd = some nd → 20 * s.met.pE1 ≤ nd → nd ≤ s.met.pMax →
     priceOf w nd ≤ 999999 → s.pricing.tickets.length < 32 →
     (s.receipt.mode = .attended ∨ s.bag.queue.length < 8) → s.link.alerts.length < 24 →
     ∃ t k, exec (.lock h) s = .next t ∧
       t.link.replies = s.link.replies ++ [⟨0x07, h.tag, .ok, .ticket k⟩] ∧
       t.link.alerts = s.link.alerts ++ [⟨s.now, .scaleLocked k⟩] ∧
       t.link.outstanding = s.link.outstanding + 1 ∧
       t.pricing.tickets = s.pricing.tickets ++ [k] ∧ t.pricing.clearRequired = true ∧ t.pricing.weighing = none ∧
       k.number = s.pricing.nextTicket ∧ t.pricing.nextTicket ∉ t.pricing.tickets.map (·.number) ∧
       k.itemCode = w.itemCode ∧ k.description = w.description ∧ k.unitPrice = w.price ∧ k.basis = w.basis ∧
       k.step = w.step ∧ k.generation = w.generation ∧ k.nd = nd ∧ k.interval = r.interval ∧ k.tare = r.tare ∧
       k.source = r.source ∧ k.price = priceOf w nd ∧ k.lockTime = s.now ∧ k.state = .locked ∧ k.receipt = none ∧
       k.voidRequested = false ∧ t.chanP.itemTare = none ∧ t.chanP.operatorTare = s.chanP.operatorTare ∧
       (s.receipt.mode = .attended → k.expectation = none ∧ t.bag = s.bag) ∧
       (s.receipt.mode = .selfService → k.expectation = some s.bag.nextId ∧
         ∃ e, t.bag.queue = s.bag.queue ++ [e] ∧ e.id = s.bag.nextId ∧ e.source = .ticket k.number ∧ e.delta = nd ∧
           e.low = nd - toleranceOf s.params w.bagTolerance nd ∧ e.high = nd + toleranceOf s.params w.bagTolerance nd ∧
           e.posted = s.now ∧ e.overdue = false ∧ t.bag.reasons = s.bag.reasons ∧ t.bag.wref = s.bag.wref) ∧
       sameOutside [.link, .chanP, .pricing, .bag] s t = true) ∧
  (∀ (h : Header) (s : State), h.wellFormed = true → s.link.outstanding < 16 →
     (s.pricing.weighing = none → exec (.lock h) s = .next (replied ⟨0x07, h.tag, .wrongState, .none⟩ s)) ∧
     ∀ w, s.pricing.weighing = some w →
       (s.chanP.state ≠ .ready → exec (.lock h) s = .next (replied ⟨0x07, h.tag, .wrongState, .none⟩ s)) ∧
       (s.chanP.state = .ready →
         (s.receipt.mode = .selfService → s.receipt.state = .closed ∨ s.receipt.state = .closing →
           exec (.lock h) s = .next (replied ⟨0x07, h.tag, .wrongState, .none⟩ s)) ∧
         (s.receipt.mode = .attended ∨ s.receipt.state = .opened ∨ s.receipt.state = .tendering →
           (s.verifier = .hold → exec (.lock h) s = .next (replied ⟨0x07, h.tag, .baggingHold, .none⟩ s)) ∧
           (s.verifier ≠ .hold → s.pricing.clearRequired = true →
             exec (.lock h) s = .next (replied ⟨0x07, h.tag, .notCleared, .none⟩ s)) ∧
           (∀ r, s.verifier ≠ .hold → s.pricing.clearRequired = false → s.chanP.reading = some r →
             (r.stable = false →
               exec (.lock h) s =
                 .next (replied ⟨0x07, h.tag, .notStable, .lockRefused r.nd (some r.interval) none⟩ s)) ∧
             (r.stable = true → r.nd = none →
               exec (.lock h) s =
                 .next (replied ⟨0x07, h.tag, .outOfRange, .lockRefused none (some r.interval) none⟩ s)) ∧
             (∀ nd, r.stable = true → r.nd = some nd → nd < 20 * s.met.pE1 ∨ s.met.pMax < nd →
               exec (.lock h) s =
                 .next (replied ⟨0x07, h.tag, .outOfRange, .lockRefused (some nd) (some r.interval) none⟩ s)) ∧
             (∀ nd, r.stable = true → r.nd = some nd → 20 * s.met.pE1 ≤ nd → nd ≤ s.met.pMax →
               999999 < priceOf w nd →
               exec (.lock h) s =
                 .next (replied ⟨0x07, h.tag, .priceOverflow,
                   .lockRefused (some nd) (some r.interval) (some (priceOf w nd))⟩ s)) ∧
             (∀ nd, r.stable = true → r.nd = some nd → 20 * s.met.pE1 ≤ nd → nd ≤ s.met.pMax →
               priceOf w nd ≤ 999999 →
               (32 ≤ s.pricing.tickets.length →
                 exec (.lock h) s = .next (replied ⟨0x07, h.tag, .tableFull, .none⟩ s)) ∧
               (s.pricing.tickets.length < 32 → s.receipt.mode = .selfService → 8 ≤ s.bag.queue.length →
                 exec (.lock h) s = .next (replied ⟨0x07, h.tag, .queueFull, .none⟩ s)))))))

/-- A ticket joins the table only by LOCK, as a command or as the frame that a flag ends, or by the automatic lock of a sample on channel
P, and with what every ticket has: a net within 20 × e1 and Max, the price of the formula within 999,999, and clear-required set. -/
def Obligations.TicketsJoinOnlyByALock : Prop :=
  ∀ (c : Instr) (s t : State), exec c s = .next t → s.pricing.tickets.length < t.pricing.tickets.length →
    ((∃ h, c = .lock h) ∨ (∃ raw, c = .sampleArrival .P raw) ∨
      (c = .downstreamByte 0x7E true ∧ goodFrame s.link.receiver.bytes = true ∧
        ∃ h, frameMessage s.link.receiver.bytes = .lock h)) ∧ s.verifier ≠ .hold ∧
    ∃ (k : Ticket) (w : Weighing), t.pricing.tickets = s.pricing.tickets ++ [k] ∧ s.pricing.weighing = some w ∧
      t.pricing.weighing = none ∧ t.pricing.clearRequired = true ∧ k.state = .locked ∧ k.number = s.pricing.nextTicket ∧
      20 * s.met.pE1 ≤ k.nd ∧ k.nd ≤ s.met.pMax ∧ k.price = priceOf w k.nd ∧ k.price ≤ 999999 ∧
      k.step = w.step ∧ k.unitPrice = w.price ∧ k.basis = w.basis

/-- A LOCKED ticket leaves by TICKET_VOID and by its expiry, with the expectation it posted. -/
def Obligations.LockedTicketsLeave : Prop :=
  ∀ (n : Nat) (k : Ticket) (s : State), findTicket s n = some k →
    (∀ h : Header, h.wellFormed = true → s.link.outstanding < 16 →
      (k.state ≠ .locked → exec (.ticketVoid h n) s = .next (replied ⟨0x08, h.tag, .wrongState, .none⟩ s)) ∧
      (k.state = .locked →
        ∃ t, exec (.ticketVoid h n) s = .next t ∧ t.link.outstanding = s.link.outstanding + 1 ∧
          t.link.replies = s.link.replies ++
            [⟨0x08, h.tag, .ok, .ticketVoided ((ticketExpectation s k).map (·.id))⟩] ∧
          t.pricing = { s.pricing with tickets := s.pricing.tickets.filter fun x => x.number ≠ n } ∧
          (ticketExpectation s k = none → t.bag = s.bag ∧ t.link.alerts = s.link.alerts) ∧
          (∀ e, ticketExpectation s k = some e → t.bag.queue = s.bag.queue.filter fun x => x ≠ e) ∧
          sameOutside [.link, .latched, .pricing, .bag] s t = true)) ∧
    (k.state = .locked → s.params.refLifetime * 1000 ≤ age s.now k.lockTime → s.link.alerts.length < 24 →
      ∃ t l, exec (.ticketExpired n) s = .next t ∧
        t.pricing = { s.pricing with tickets := s.pricing.tickets.filter fun x => x.number ≠ n } ∧
        t.link.alerts = s.link.alerts ++
          (⟨s.now, .ticketExpired k.number k.itemCode k.nd k.price ((ticketExpectation s k).map (·.id))⟩ :: l) ∧
        (ticketExpectation s k = none → t.bag = s.bag ∧ l = []) ∧
        (∀ e, ticketExpectation s k = some e → t.bag.queue = s.bag.queue.filter fun x => x ≠ e) ∧
        sameOutside [.link, .latched, .pricing, .bag] s t = true)

/-! ### The Item Table and the queries of the two tables -/

/-- STAGE_BEGIN and STAGE_ENTRIES: the Standby bank is started, and takes entries whole or not at all: a new code joins, a code already
present has its entry replaced, by the later of two in one request, and a bank of more than 4,096 entries is refused. The payload of
STAGE_ENTRIES carries the entries it is made of. -/
def Obligations.StagingFillsTheStandbyBank : Prop :=
  (∀ (h : Header) (s : State), h.wellFormed = true → s.link.outstanding < 16 →
    (s.items.state ≠ .commitPending →
      exec (.stageBegin h (some .clear)) s = .next (replied ⟨0x06, h.tag, .ok, .stageBegun 0 s.items.generation⟩
        (s.setItems { s.items with standby := [], state := .staging, check := none })) ∧
      exec (.stageBegin h (some .copy)) s =
        .next (replied ⟨0x06, h.tag, .ok, .stageBegun s.items.active.length s.items.generation⟩
          (s.setItems { s.items with standby := s.items.active, state := .staging, check := none }))) ∧
    exec (.stageBegin h none) s = .next (replied ⟨0x06, h.tag, .badRequest, .none⟩ s) ∧
    (s.items.state = .commitPending → ∀ mode, exec (.stageBegin h (some mode)) s =
      .next (replied ⟨0x06, h.tag, .wrongState, .none⟩ s)) ∧
    (∀ entries : List ItemEntry, entries.length < 1 ∨ 16 < entries.length →
      exec (.stageEntries h entries) s = .next (replied ⟨0x07, h.tag, .badRequest, .none⟩ s)) ∧
    ∀ entries : List ItemEntry, 1 ≤ entries.length → entries.length ≤ 16 →
      (s.items.state ≠ .staging →
        exec (.stageEntries h entries) s = .next (replied ⟨0x07, h.tag, .wrongState, .none⟩ s)) ∧
      (s.items.state = .staging → ∀ good bad rest field, entries = good ++ bad :: rest →
        (∀ e ∈ good, firstFault s.met e = none) → firstFault s.met bad = some field →
        exec (.stageEntries h entries) s =
          .next (replied ⟨0x07, h.tag, .outOfRange, .entryFault (good.length + 1) field⟩ s)) ∧
      (s.items.state = .staging → (∀ e ∈ entries, firstFault s.met e = none) → BanksOrdered s →
        ∀ new : List Nat, new.Nodup →
          (∀ code, code ∈ new ↔ (∃ e ∈ entries, e.code = code) ∧ ∀ x ∈ s.items.standby, x.code ≠ code) →
          (4096 < s.items.standby.length + new.length →
            exec (.stageEntries h entries) s =
              .next (replied ⟨0x07, h.tag, .tableFull, .entryCount s.items.standby.length⟩ s)) ∧
          (s.items.standby.length + new.length ≤ 4096 →
            ∃ bank : List ItemEntry, exec (.stageEntries h entries) s =
                .next (replied ⟨0x07, h.tag, .ok,
                    .staged new.length (entries.length - new.length) (s.items.standby.length + new.length)⟩
                  (s.setItems { s.items with standby := bank })) ∧
              bank.length = s.items.standby.length + new.length ∧ bank.Pairwise (fun a b => a.code < b.code) ∧
              ∀ x, x ∈ bank ↔ entries.reverse.find? (fun e => e.code == x.code) = some x ∨
                (x ∈ s.items.standby ∧ ∀ e ∈ entries, e.code ≠ x.code)))) ∧
  (∀ entries : List ItemEntry, entriesFit entries = true → readEntries (entriesPayload entries) = some entries ∧
    (entriesPayload entries).length = 1 + (entries.map compactSize).sum)

/-- STAGE_DELETE and STAGE_ABANDON (R65, R70). -/
def Obligations.StageDeleteAndAbandon : Prop :=
  ∀ (h : Header) (s : State), h.wellFormed = true → s.link.outstanding < 16 →
    (∀ codes : List Nat, 1 ≤ codes.length → codes.length ≤ 16 →
      (s.items.state ≠ .staging →
        exec (.stageDelete h codes) s = .next (replied ⟨0x08, h.tag, .wrongState, .none⟩ s)) ∧
      (s.items.state = .staging →
        ∃ (t : State) (removed : Nat), exec (.stageDelete h codes) s = .next t ∧
          Replied ⟨0x08, h.tag, .ok, .deleted removed t.items.standby.length⟩ s t ∧
          t.items = { s.items with standby := t.items.standby } ∧
          s.items.standby.length = t.items.standby.length + removed ∧
          (∀ e, e ∈ t.items.standby ↔ e ∈ s.items.standby ∧ e.code ∉ codes) ∧
          t.items.standby.Sublist s.items.standby ∧ sameOutside [.link, .items] s t = true)) ∧
    exec (.stageAbandon h) s = .next (replied ⟨0x0B, h.tag, .ok, .stageAbandoned s.items.state⟩
      (s.setItems { s.items with standby := [], state := .empty, check := none })) ∧
    (∀ u : State, u.items.state = .empty → makePendingSwitch u = u)

/-- STAGE_SEAL and STAGE_COMMIT: the sealing check, and the switch at once or deferred to the receipt's end. -/
def Obligations.SealedBankIsCommitted : Prop :=
  ∀ (h : Header) (count : Nat) (crc : BitVec 32) (s : State), h.wellFormed = true → s.link.outstanding < 16 →
    (s.items.state = .staging →
      ((s.items.standby.length, crc32 (s.items.standby.flatMap serialize)) = (count, crc) →
        exec (.stageSeal h count crc) s = .next (replied ⟨0x09, h.tag, .ok, .none⟩
          (s.setItems { s.items with state := .sealed, check := some (count, crc) }))) ∧
      ((s.items.standby.length, crc32 (s.items.standby.flatMap serialize)) ≠ (count, crc) →
        exec (.stageSeal h count crc) s = .next (replied ⟨0x09, h.tag, .checkMismatch,
          .computedCheck s.items.standby.length (crc32 (s.items.standby.flatMap serialize))⟩ s))) ∧
    (s.items.state ≠ .staging →
      exec (.stageSeal h count crc) s = .next (replied ⟨0x09, h.tag, .wrongState, .none⟩ s)) ∧
    (s.items.state ≠ .sealed → exec (.stageCommit h) s = .next (replied ⟨0x0A, h.tag, .wrongState, .none⟩ s)) ∧
    (s.items.state = .sealed → s.items.check = some (count, crc) →
      (s.receipt.state ≠ .closed →
        exec (.stageCommit h) s = .next (replied ⟨0x0A, h.tag, .ok, .deferred s.receipt.number count crc⟩
          (s.setItems { s.items with state := .commitPending }))) ∧
      (s.receipt.state = .closed → s.link.alerts.length < 24 →
        ∃ t g, exec (.stageCommit h) s = .next t ∧ g = (if 65535 ≤ s.items.generation then 1 else s.items.generation + 1) ∧
          t.items = ⟨s.items.standby, g, [], .empty, none⟩ ∧
          t.link.replies = s.link.replies ++ [⟨0x0A, h.tag, .ok, .switched g count crc⟩] ∧
          t.link.alerts = s.link.alerts ++ [⟨s.now, .lane (.tableSwitched g count crc)⟩] ∧
          t.link.outstanding = s.link.outstanding + 1 ∧ sameOutside [.link, .items] s t = true))

/-- TABLE_QUERY and TICKET_QUERY read without changing anything (R58, R72, R73). -/
def Obligations.TablesAreQueried : Prop :=
  ∀ (h : Header) (n : Nat) (s : State), h.wellFormed = true → s.link.outstanding < 16 →
    (∀ e, n ≠ 0 → s.items.active.find? (fun x => x.code == n) = some e →
      exec (.tableQuery h n) s = .next (replied ⟨0x0C, h.tag, .ok, .tableEntry e s.items.generation⟩ s)) ∧
    (n ≠ 0 → (∀ e ∈ s.items.active, e.code ≠ n) →
      exec (.tableQuery h n) s = .next (replied ⟨0x0C, h.tag, .unknownItem, .tableMiss s.items.generation⟩ s)) ∧
    exec (.tableQuery h 0) s = .next (replied ⟨0x0C, h.tag, .ok,
      .tableSummary s.items.generation s.items.active.length s.items.state s.items.standby.length s.items.check
        (if s.items.state = .commitPending then s.receipt.number else none)⟩ s) ∧
    (∀ k, n ≠ 0 → s.pricing.tickets.find? (fun x => x.number == n) = some k →
      exec (.ticketQuery h n) s = .next (replied ⟨0x09, h.tag, .ok, .ticket k⟩ s)) ∧
    (n ≠ 0 → (∀ k ∈ s.pricing.tickets, k.number ≠ n) →
      exec (.ticketQuery h n) s = .next (replied ⟨0x09, h.tag, .unknownTicket, .none⟩ s)) ∧
    exec (.ticketQuery h 0) s = .next (replied ⟨0x09, h.tag, .ok,
      .ticketSummary (s.pricing.tickets.map fun k => ⟨k.number, k.state, k.receipt, k.nd, k.price⟩)
        s.pricing.nextTicket s.pricing.clearRequired (s.pricing.weighing.map (·.itemCode))⟩ s)

/-! ### The Bagging Verifier -/

/-- EXPECT with an inline weight and with an item code, and its refusals in their order; EXPECT_CANCEL, with the end of a hold it may
make. OVERRIDE: overdue expectations and every reason leave, SCALE_FAULT comes back while channel B is not READY or overloaded, Wref is
taken from a usable reading, and the events are told. That an item code with a tolerance is BAD_REQUEST is log entry 26, that the scale
fault added again is told, with Wref as it was, log entry 18. -/
def Obligations.ExpectationsAndOverrideAreJudged : Prop :=
  (∀ (h : Header) (s : State), h.wellFormed = true → s.link.outstanding < 16 →
     (∀ (item : Option Nat) (weight tol : Option Int) (delta t : Int) (src : ExpectationSource),
       s.receipt.mode = .selfService → (s.receipt.state = .opened ∨ s.receipt.state = .tendering) →
       s.bag.queue.length < 8 →
       ((item = none ∧ weight = some delta ∧ 1 ≤ delta ∧ delta ≤ 60000000 ∧ src = .inlineWeight ∧
           (tol = some t ∧ 0 ≤ t ∧ t ≤ 60000000 ∨
             tol = none ∧ t = max (s.params.bagTolAbs : Int) ((s.params.bagTolPct : Int) * delta / 100))) ∨
         (∃ code e, item = some code ∧ weight = none ∧ tol = none ∧ src = .item code ∧
           findEntry s.items.active code = some e ∧ e.bagWeight = some delta ∧
           (e.bagTolerance = some t ∨ e.bagTolerance = none ∧
             t = max (s.params.bagTolAbs : Int) ((s.params.bagTolPct : Int) * delta / 100)))) →
       ∃ u, exec (.expect h item weight tol) s = .next u ∧
         Replied ⟨0x01, h.tag, .ok, .expectationPosted s.bag.nextId delta (delta - t) (delta + t)⟩ s u ∧
         u.bag.queue = s.bag.queue ++ [⟨s.bag.nextId, delta, delta - t, delta + t, src, s.now, false⟩] ∧
         u.bag.nextId ∉ u.bag.queue.map (·.id) ∧
         u.bag = { s.bag with queue := u.bag.queue, nextId := u.bag.nextId } ∧
         sameOutside [.link, .bag] s u = true) ∧
     (∀ (item : Option Nat) (weight tol : Option Int),
       (item.isSome = weight.isSome ∨ (item.isSome = true ∧ tol.isSome = true) →
         exec (.expect h item weight tol) s = .next (replied ⟨0x01, h.tag, .badRequest, .none⟩ s)) ∧
       (item.isSome ≠ weight.isSome → item = none ∨ tol = none →
         (s.receipt.mode = .attended ∨ s.receipt.state = .closed ∨ s.receipt.state = .closing →
           exec (.expect h item weight tol) s = .next (replied ⟨0x01, h.tag, .wrongState, .none⟩ s)) ∧
         (s.receipt.mode = .selfService → s.receipt.state = .opened ∨ s.receipt.state = .tendering →
           (∀ w, weight = some w →
             w < 1 ∨ 60000000 < w ∨ (∃ t, tol = some t ∧ (t < 0 ∨ 60000000 < t)) →
               exec (.expect h item weight tol) s = .next (replied ⟨0x01, h.tag, .outOfRange, .none⟩ s)) ∧
           (∀ code, item = some code → (∀ e, findEntry s.items.active code = some e → e.bagWeight = none) →
             exec (.expect h item weight tol) s = .next (replied ⟨0x01, h.tag, .unknownItem, .none⟩ s)) ∧
           (8 ≤ s.bag.queue.length →
             (∃ w, weight = some w ∧ 1 ≤ w ∧ w ≤ 60000000 ∧ ∀ t, tol = some t → 0 ≤ t ∧ t ≤ 60000000) ∨
               (∃ code e, item = some code ∧ findEntry s.items.active code = some e ∧ e.bagWeight.isSome = true) →
             exec (.expect h item weight tol) s = .next (replied ⟨0x01, h.tag, .queueFull, .none⟩ s))))) ∧
     (s.attendant = false → ∀ id,
       exec (.expectCancel h id) s = .next (replied ⟨0x03, h.tag, .attendantRequired, .none⟩ s)) ∧
     (s.attendant = true → ∀ id,
       ((∀ e ∈ s.bag.queue, e.id ≠ id) →
         exec (.expectCancel h id) s = .next (replied ⟨0x03, h.tag, .unknownExpectation, .none⟩ s)) ∧
       (∀ e, s.bag.queue.find? (fun x => x.id == id) = some e →
         ∃ u, exec (.expectCancel h id) s = .next u ∧ u.link.outstanding = s.link.outstanding + 1 ∧
           u.link.replies = s.link.replies ++ [⟨0x03, h.tag, .ok, .expectation e⟩] ∧
           u.bag.queue = s.bag.queue.filter (fun x => x ≠ e) ∧
           u.bag.reasons = { s.bag.reasons with
             overdue := s.bag.reasons.overdue && u.bag.queue.any (·.overdue) } ∧
           u.bag = { s.bag with
             queue := u.bag.queue, reasons := u.bag.reasons, lightOn := u.bag.lightOn, lightDue := u.bag.lightDue } ∧
           LightFollows s u ∧ Told [] (boundaryEvents .expectationGone s u) s u ∧
           sameOutside [.link, .latched, .bag] s u = true))) ∧
  (∀ (h : Header) (s : State), h.wellFormed = true → s.link.outstanding < 16 →
     (s.receipt.mode = .attended → exec (.override h) s = .next (replied ⟨0x04, h.tag, .wrongState, .none⟩ s)) ∧
     (s.receipt.mode = .selfService → s.attendant = false →
       exec (.override h) s = .next (replied ⟨0x04, h.tag, .attendantRequired, .none⟩ s)) ∧
     (s.receipt.mode = .selfService → s.attendant = true →
       ∃ t, exec (.override h) s = .next t ∧ t.link.outstanding = s.link.outstanding + 1 ∧
         t.link.replies = s.link.replies ++ [⟨0x04, h.tag, .ok,
           .overridden (s.bag.queue.filter (·.overdue)).length s.bag.reasons t.verifier t.bag.wref⟩] ∧
         t.bag.queue = s.bag.queue.filter (fun e => !e.overdue) ∧ t.bag.holdReference = none ∧
         t.bag.reasons = ⟨false, false, false, decide (s.chanB.state ≠ .ready ∨ overloadB s = true)⟩ ∧
         t.bag.wref = usableNd s ∧ t.bag.nextId = s.bag.nextId ∧ t.bag.offered = s.bag.offered ∧ LightFollows s t ∧
         Told [] ((if t.bag.reasons.scaleFault = true then
             [.bag (.scaleFault s.chanB.state (overloadB s)) t.bag.reasons s.bag.wref] else []) ++
           boundaryEvents .override s t) s t ∧
         sameOutside [.link, .latched, .bag] s t = true))

/-- An expectation that has waited PLACE_TIMEOUT becomes OVERDUE with its reason, and the hold that this begins lights the hold light; in
HOLD the light toggles every 500 ms from its due time (R83, R95). -/
def Obligations.VerifierTimersExpire : Prop :=
  ∀ s : State,
    (∀ id e, s.bag.queue.find? (fun x => x.id == id) = some e → e.overdue = false →
      s.params.placeTimeout * 1000 ≤ age s.now e.posted → s.link.alerts.length < 23 →
      ∃ t, exec (.placeTimeout id) s = .next t ∧
        t.bag.queue = s.bag.queue.map (fun x => if x = e then { x with overdue := true } else x) ∧
        t.bag.reasons = { s.bag.reasons with overdue := true } ∧ t.bag.wref = s.bag.wref ∧
        t.link.alerts = s.link.alerts ++
          [⟨s.now, .bag (.placeTimeout e.id e.source e.delta) t.bag.reasons s.bag.wref⟩] ++
          (if s.bag.reasons.any = true then [] else [⟨s.now, .bag .holdEntered t.bag.reasons s.bag.wref⟩]) ∧
        (s.bag.reasons.any = false → t.bag.lightOn = true ∧ t.bag.lightDue = some (after s.now 500)) ∧
        sameOutside [.link, .bag] s t = true) ∧
    (∀ due, s.verifier = .hold → s.bag.lightDue = some due → reached s.now due = true →
      exec .lightPhaseToggle s =
        .next (s.setBag { s.bag with lightOn := !s.bag.lightOn, lightDue := some (after due 500) }))

/-- What the verifier makes of a READY reading of channel B in SELF mode: an overload is a scale fault, a reading that is not usable
changes nothing, the first usable one after a scale fault ends it, the first with Wref absent becomes Wref, one not settled changes nothing.
A settled change that matches takes its expectation and moves Wref, an unmatched one and a removal hold the lane and keep Wref, with
the receipt CLOSED Wref follows, and while UNEXPECTED or REMOVED is in the set only the return test is made, and then the judgment of a
CLOSED receipt. That the verifier keeps what channel B offers is a field of the model's own, log entry 36. -/
def Obligations.StableChangesAreJudged : Prop :=
  ∀ (raw : Int) (s t : State) (r : Reading) (b : Bag),
    exec (.sampleArrival .B raw) s = .next t → s.receipt.mode = .selfService → s.chanB.state = .ready →
    (pushWindow (filterLenOf s.met .B) s.chanB.filter raw).length = filterLenOf s.met .B → s.chanB.signalFault = false →
    raw ≠ 8388607 → raw ≠ -8388608 → t.chanB.reading = some r →
    b = { s.bag with offered := ⟨.ready, r.stable, r.nd⟩ } →
    sameOutside [.latched, .chanB, .bag, .link] s t = true ∧
    (r.overload = true → Judged { b with reasons := { b.reasons with scaleFault := true } }
      (if s.bag.reasons.scaleFault = true then [] else [.scaleFault .ready true]) .scaleOk s t) ∧
    (r.overload = false → r.stable = false ∨ r.nd = none → Judged b [] .scaleOk s t) ∧
    (∀ nd, r.overload = false → r.stable = true → r.nd = some nd →
      (s.bag.reasons.scaleFault = true →
        (s.bag.wref = none →
          Judged { b with reasons := { b.reasons with scaleFault := false }, wref := some nd }
            [.referenceSet nd, .scaleOk nd false] .scaleOk s t) ∧
        (∀ wref, s.bag.wref = some wref →
          (s.bag.reasons.unexpected = false → s.bag.reasons.removed = false →
            (s.params.bagThreshold : Int) ≤ ((nd - wref).natAbs : Int) →
            Judged { b with
              reasons := { b.reasons with scaleFault := false, unexpected := true }, holdReference := some wref }
              [.scaleOk nd true] .scaleOk s t) ∧
          (s.bag.reasons.unexpected = true ∨ s.bag.reasons.removed = true ∨
              ((nd - wref).natAbs : Int) < s.params.bagThreshold →
            Judged { b with reasons := { b.reasons with scaleFault := false } } [.scaleOk nd false] .scaleOk s t))) ∧
      (s.bag.reasons.scaleFault = false →
        (s.bag.wref = none → Judged { b with wref := some nd } [.referenceSet nd] .scaleOk s t) ∧
        (∀ wref, s.bag.wref = some wref →
          ((∀ since, r.stableSince = some since → age s.now since < s.params.bagSettle) →
            Judged b [] .scaleOk s t) ∧
          (∀ since, r.stableSince = some since → s.params.bagSettle ≤ age s.now since →
            (s.bag.reasons.unexpected = false → s.bag.reasons.removed = false →
              (((nd - wref).natAbs : Int) < s.params.bagThreshold → Judged b [] .scaleOk s t) ∧
              ((s.params.bagThreshold : Int) ≤ ((nd - wref).natAbs : Int) →
                (s.receipt.state = .closed → Judged { b with wref := some nd }
                  [if nd < wref then .bagsTaken (nd - wref) else .addedIdle (nd - wref)] .scaleOk s t) ∧
                (s.receipt.state ≠ .closed → nd < wref →
                  Judged { b with reasons := { b.reasons with removed := true }, holdReference := some wref }
                    [.itemRemoved (nd - wref)] .returned s t) ∧
                (s.receipt.state ≠ .closed → wref ≤ nd →
                  (∀ e, s.bag.queue.find? (fun e => decide (e.low ≤ nd - wref ∧ nd - wref ≤ e.high)) = some e →
                    Judged { b with
                      queue := s.bag.queue.filter (fun x => x ≠ e), wref := some nd
                      reasons := { b.reasons with
                        overdue := b.reasons.overdue && (s.bag.queue.filter (fun x => x ≠ e)).any (·.overdue) } }
                      [.placedOk e.id e.source e.delta (nd - wref)] .expectationGone s t) ∧
                  ((∀ e ∈ s.bag.queue, nd - wref < e.low ∨ e.high < nd - wref) →
                    Judged { b with reasons := { b.reasons with unexpected := true }, holdReference := some wref }
                      [if s.bag.queue = [] then .unexpectedItem (nd - wref) else .unexpectedWeight (nd - wref)]
                      .returned s t)))) ∧
            (s.bag.reasons.unexpected = true ∨ s.bag.reasons.removed = true →
              (∀ back, s.bag.holdReference = some back → ((nd - back).natAbs : Int) < s.params.bagThreshold →
                Judged { b with
                  reasons := { b.reasons with unexpected := false, removed := false }, holdReference := none
                  wref := some nd } [.returned nd] .returned s t) ∧
              ((∀ back, s.bag.holdReference = some back → (s.params.bagThreshold : Int) ≤ ((nd - back).natAbs : Int)) →
                (s.receipt.state = .closed → (s.params.bagThreshold : Int) ≤ ((nd - wref).natAbs : Int) →
                  Judged { b with wref := some nd }
                    [if nd < wref then .bagsTaken (nd - wref) else .addedIdle (nd - wref)] .scaleOk s t) ∧
                (s.receipt.state ≠ .closed ∨ ((nd - wref).natAbs : Int) < s.params.bagThreshold →
                  Judged b [] .scaleOk s t)))))))

/-! ### The Card Port -/

/-- CARD_ARM and CARD_DISARM: the checks in their order, and what each port state gives. That the attempts left are 0 after a CARD_DISARM
in FORWARDING is the model's choice, log entry 45. -/
def Obligations.CardPortIsArmedAndDisarmed : Prop :=
  ∀ (h : Header) (s : State), h.wellFormed = true → s.link.outstanding < 16 →
    (s.card.port ≠ .disarmed → exec (.cardArm h) s = .next (replied ⟨0x01, h.tag, .busy, .none⟩ s)) ∧
    (s.card.port = .disarmed → 4 ≤ s.card.slips.length →
      exec (.cardArm h) s = .next (replied ⟨0x01, h.tag, .tableFull, .none⟩ s)) ∧
    (s.card.port = .disarmed → s.card.slips.length < 4 →
      exec (.cardArm h) s = .next (replied ⟨0x01, h.tag, .ok,
          .cardArmed s.params.cardAttempts (after s.now (s.params.cardArmTimeout * 1000))⟩
        (s.setCard { s.card with
          port := .armed, attempts := s.params.cardAttempts
          armDue := some (after s.now (s.params.cardArmTimeout * 1000)) }))) ∧
    (s.card.port = .disarmed →
      exec (.cardDisarm h) s = .next (replied ⟨0x02, h.tag, .ok, .cardDisarmed .disarmed⟩ s)) ∧
    (s.card.port = .armed →
      exec (.cardDisarm h) s = .next (replied ⟨0x02, h.tag, .ok, .cardDisarmed .armed⟩
        (s.setCard { s.card with port := .disarmed, attempts := 0, armDue := none, buffer := none }))) ∧
    (s.card.port = .receiving ∨ s.card.port = .forwarding →
      ∃ t, exec (.cardDisarm h) s = .next t ∧ t.link.outstanding = s.link.outstanding + 1 ∧
        t.link.replies = s.link.replies ++ [⟨0x02, h.tag, .ok, .cardDisarmed s.card.port⟩] ∧
        t.link.alerts = (if s.link.alerts.length < 24 then s.link.alerts ++ [⟨s.now, .card (.discarded s.card.port)⟩]
          else s.link.alerts) ∧
        t.card.port = .disarmed ∧ t.card.attempts = 0 ∧ t.card.armDue = none ∧ t.card.buffer = none ∧
        t.card.slips = s.card.slips ∧
        t.card.rx = (if s.card.port = .receiving then { s.card.rx with destination := .skip } else s.card.rx) ∧
        sameOutside [.link, .latched, .card] s t = true)

/-- The characters of a record: the start byte, kind, length, payload and the framing errors that end it. -/
def Obligations.ReaderAssemblesRecords : Prop :=
  ∀ (v : Byte) (s : State),
    (s.card.rx.phase = .hunt → v ≠ 0x02 → exec (.readerCharacter v) s = .next s) ∧
    (s.card.rx.phase = .hunt → ∀ cmd, cmd = .recordStart ∨ cmd = .readerCharacter 0x02 →
      ∃ t, exec cmd s = .next t ∧ t.card.rx.phase = .kind ∧ t.card.rx.sum = 0 ∧ t.card.rx.lastByte = s.now ∧
        (s.card.port = .armed → t.card.rx.destination = .store ∧ t.card.port = .receiving ∧ t.card.buffer = none) ∧
        (s.card.port ≠ .armed → t.card.rx.destination = .count ∧ t.card.port = s.card.port ∧
          t.card.buffer = s.card.buffer) ∧
        t.card.slips = s.card.slips ∧ t.card.armDue = s.card.armDue ∧ sameOutside [.card] s t = true) ∧
    (s.card.rx.phase = .kind →
      ∃ t, exec (.readerCharacter v) s = .next t ∧
        t.card.rx = { s.card.rx with kind := v, phase := .length, sum := s.card.rx.sum + v, lastByte := s.now } ∧
        t.card.port = s.card.port ∧ sameOutside [.card] s t = true) ∧
    (s.card.rx.phase = .length → v.toNat ≤ 120 →
      exec (.readerCharacter v) s = .next (s.setCard { s.card with
        rx := { s.card.rx with
          length := v.toNat, taken := 0, phase := if v = 0 then .check else .payload
          sum := s.card.rx.sum + v, lastByte := s.now } })) ∧
    (s.card.rx.phase = .payload →
      ∃ t, exec (.readerCharacter v) s = .next t ∧ t.card.rx.taken = s.card.rx.taken + 1 ∧
        t.card.rx.sum = s.card.rx.sum + v ∧ t.card.rx.lastByte = s.now ∧
        t.card.rx.phase = (if s.card.rx.taken + 1 = s.card.rx.length then .check else .payload) ∧
        (s.card.rx.destination = .store → ∀ b, s.card.buffer = some b →
          t.card.buffer = some { b with payload := b.payload ++ [v] }) ∧
        (s.card.rx.destination ≠ .store → t.card.buffer = s.card.buffer) ∧
        t.card.port = s.card.port ∧ t.card.slips = s.card.slips ∧ sameOutside [.card] s t = true) ∧
    (∀ cmd, s.card.rx.phase ≠ .hunt →
      (cmd = .framingError .stopBitLow ∨
        (cmd = .recordTimeout ∧ 500 ≤ age s.now s.card.rx.lastByte) ∨
        (cmd = .framingError (.longLength v) ∧ s.card.rx.phase = .length ∧ 120 < v.toNat) ∨
        (cmd = .framingError (.badCheck v) ∧ s.card.rx.phase = .check ∧ s.card.rx.sum + v ≠ 0)) →
      ∃ t, exec cmd s = .next t ∧ t.card.rx.phase = .hunt ∧ t.card.lastKind = s.card.lastKind ∧
        t.card.slips = s.card.slips ∧
        (s.card.rx.destination ≠ .store → t.card.port = s.card.port ∧ t.card.attempts = s.card.attempts ∧
          t.link = s.link) ∧
        (s.card.rx.destination = .store → t.card.buffer = none ∧ t.card.attempts = s.card.attempts - 1 ∧
          t.card.port = (if s.card.attempts - 1 = 0 then .disarmed else .armed) ∧
          t.link.alerts = (if s.link.alerts.length < 24 then s.link.alerts ++
            [⟨s.now, .card (.readError .framing (s.card.attempts - 1) (s.card.attempts - 1 == 0))⟩]
            else s.link.alerts)) ∧
        sameOutside [.card, .link, .latched] s t = true)

/-- The completion of a SWIPE or CHIP record: forwarded with its slip, kept waiting for an Alert entry, failed, or unsolicited. -/
def Obligations.CompletedReadsAreJudged : Prop :=
  ∀ (cmd : Instr) (kind : Byte) (m : EntryMethod) (s : State),
    (cmd = .swipe ∧ kind = 0x01 ∧ m = .swipe ∨ cmd = .chip ∧ kind = 0x02 ∧ m = .chip) →
    s.card.rx.phase = .check → s.card.rx.kind = kind →
    (∀ b r, s.card.rx.destination = .store → s.card.buffer = some b → b.kind = kind →
      parseCard kind b.payload = some r → readFault (some r) = none →
      (s.link.alerts.length < 24 →
        ∃ t p, exec cmd s = .next t ∧ t.card.slips = s.card.slips ++ [p] ∧ p.id = s.card.nextSlip ∧ p.method = m ∧
          p.masked = masked r.account ∧ p.readTime = s.now ∧ p.state = .held ∧ p.receipt = none ∧
          p.lineRequested = false ∧
          t.link.alerts = s.link.alerts ++ [⟨s.now, .cardData ⟨m, r.account, r.expiry, r.service, r.discretionary,
            r.label, r.sequence, s.now, s.card.nextSlip⟩⟩] ∧
          t.card.port = .disarmed ∧ t.card.attempts = 0 ∧ t.card.armDue = none ∧ t.card.buffer = none ∧
          t.card.rx.phase = .hunt ∧ t.card.lastKind = some kind ∧ sameOutside [.card, .link] s t = true) ∧
      (24 ≤ s.link.alerts.length →
        ∃ t, exec cmd s = .next t ∧ t.card.port = .forwarding ∧ t.card.armDue = none ∧
          t.card.buffer = some { b with readTime := some s.now } ∧ t.card.slips = s.card.slips ∧
          sameOutside [.card] s t = true)) ∧
    (∀ b reason, s.card.rx.destination = .store → s.card.buffer = some b → b.kind = kind →
      readFault (parseCard kind b.payload) = some reason → s.link.alerts.length < 24 →
      ∃ t, exec cmd s = .next t ∧ t.card.buffer = none ∧ t.card.attempts = s.card.attempts - 1 ∧
        t.card.port = (if s.card.attempts - 1 = 0 then .disarmed else .armed) ∧ t.card.slips = s.card.slips ∧
        t.link.alerts = s.link.alerts ++
          [⟨s.now, .card (.readError reason (s.card.attempts - 1) (s.card.attempts - 1 == 0))⟩] ∧
        sameOutside [.card, .link] s t = true) ∧
    (s.card.rx.destination = .count → s.link.alerts.length < 24 →
      ∃ t, exec cmd s = .next t ∧ t.link.alerts = s.link.alerts ++ [⟨s.now, .card (.unsolicited m)⟩] ∧
        Condition.unsolicited ∈ t.latched ∧ t.card.port = s.card.port ∧ t.card.buffer = s.card.buffer ∧
        t.card.slips = s.card.slips ∧ sameOutside [.card, .link, .latched] s t = true) ∧
    (s.card.rx.destination = .skip →
      ∃ t, exec cmd s = .next t ∧ t.card.rx.phase = .hunt ∧ t.card.lastKind = s.card.lastKind ∧
        t.card.port = s.card.port ∧ sameOutside [.card] s t = true)

/-- The completion of a REMOVED, a FAULT or a record of another kind; the arm timer's expiry, a waiting read's forwarding, and the ways a
HELD slip leaves. -/
def Obligations.OtherRecordsAndEndsAreJudged : Prop :=
  (∀ s : State, s.card.rx.phase = .check → s.link.alerts.length < 24 →
     (s.card.rx.kind = 0x03 → s.card.rx.destination ≠ .skip →
       ∃ t, exec .removed s = .next t ∧ t.link.alerts = s.link.alerts ++ [⟨s.now, .card .removed⟩] ∧
         t.card.port = (if s.card.rx.destination = .store then .armed else s.card.port) ∧
         t.card.attempts = s.card.attempts ∧ t.card.armDue = s.card.armDue ∧ t.card.lastKind = some 0x03 ∧
         sameOutside [.card, .link] s t = true) ∧
     (s.card.rx.kind = 0x04 → s.card.rx.destination ≠ .skip →
       ∃ t, exec .fault s = .next t ∧
         t.link.alerts = s.link.alerts ++ [⟨s.now, .card (.fault s.card.rx.faultCode)⟩] ∧
         Condition.readerFault ∈ t.latched ∧ liveState t .readerFault = true ∧
         t.card.port = (if s.card.rx.destination = .store then .armed else s.card.port) ∧
         t.card.attempts = s.card.attempts ∧ t.card.armDue = s.card.armDue ∧
         sameOutside [.card, .link, .latched] s t = true) ∧
     (4 < s.card.rx.kind.toNat →
       (s.card.rx.destination = .store →
         ∃ t, exec .unknownKindRecord s = .next t ∧ t.card.buffer = none ∧ t.card.attempts = s.card.attempts - 1 ∧
           t.link.alerts = s.link.alerts ++
             [⟨s.now, .card (.readError .framing (s.card.attempts - 1) (s.card.attempts - 1 == 0))⟩] ∧
           t.card.lastKind = some s.card.rx.kind ∧ sameOutside [.card, .link] s t = true) ∧
       (s.card.rx.destination = .count →
         ∃ t, exec .unknownKindRecord s = .next t ∧ t.link = s.link ∧ t.card.lastKind = some s.card.rx.kind ∧
           t.card.port = s.card.port ∧ t.card.buffer = s.card.buffer ∧ sameOutside [.card] s t = true))) ∧
  (∀ s : State, s.link.alerts.length < 24 →
     (∀ due, s.card.armDue = some due → reached s.now due = true →
       (s.card.port = .armed ∨ s.card.port = .receiving) →
       ∃ t, exec .armTimeout s = .next t ∧ t.card.port = .disarmed ∧ t.card.attempts = 0 ∧ t.card.armDue = none ∧
         t.card.buffer = none ∧ t.card.slips = s.card.slips ∧
         (s.card.port = .receiving → t.card.rx.destination = .skip) ∧
         t.link.alerts = s.link.alerts ++ [⟨s.now, .card (.armTimeout (s.card.port == .receiving))⟩] ∧
         sameOutside [.card, .link] s t = true) ∧
     (∀ b r, s.card.port = .forwarding → s.card.buffer = some b → parseCard b.kind b.payload = some r →
       ∃ t p d, exec .cardForwarding s = .next t ∧ t.card.slips = s.card.slips ++ [p] ∧ p.masked = masked r.account ∧
         p.id = s.card.nextSlip ∧ p.state = .held ∧ d.account = r.account ∧ d.slip = p.id ∧
         t.link.alerts = s.link.alerts ++ [⟨s.now, .cardData d⟩] ∧ t.card.buffer = none ∧ t.card.port = .disarmed ∧
         sameOutside [.card, .link] s t = true) ∧
     (∀ id p, s.card.slips.find? (fun x => x.id == id) = some p →
       (p.state = .held → s.params.refLifetime * 1000 ≤ age s.now p.readTime →
         ∃ t, exec (.slipExpired id) s = .next t ∧
           t.card = { s.card with slips := s.card.slips.filter fun x => x.id ≠ id } ∧
           t.link.alerts = s.link.alerts ++ [⟨s.now, .card (.slipExpired id p.masked p.readTime)⟩] ∧
           sameOutside [.card, .link] s t = true) ∧
       ∀ h : Header, h.wellFormed = true → s.link.outstanding < 16 →
         (p.state = .held → exec (.slipDiscard h id) s = .next (replied ⟨0x03, h.tag, .ok, .slipDiscarded id p.masked⟩
           (s.setCard { s.card with slips := s.card.slips.filter fun x => x.id ≠ id }))) ∧
         (p.state ≠ .held →
           exec (.slipDiscard h id) s = .next (replied ⟨0x03, h.tag, .wrongState, .none⟩ s))))

/-- The masked number keeps the length of the account, its last four digits and, from 13 digits on, its first six; the rest are
asterisks. -/
def Obligations.MaskedNumberHidesTheAccount : Prop :=
  ∀ a : Text, 12 ≤ a.length → a.length ≤ 19 →
    (masked a).length = a.length ∧ (masked a).drop (a.length - 4) = a.drop (a.length - 4) ∧
    (13 ≤ a.length → (masked a).take 6 = a.take 6 ∧
      ((masked a).drop 6).take (a.length - 10) = List.replicate (a.length - 10) 0x2A) ∧
    (a.length = 12 → (masked a).take 8 = List.replicate 8 0x2A)

/-! ### The receipt context -/

/-- LANE_MODE: the refusals with what they carry, the unchanged answer, and the effects of a change, with its events in their order. -/
def Obligations.LaneModeIsJudgedAndChanges : Prop :=
  ∀ (h : Header) (mode : LaneMode) (s : State), h.wellFormed = true → s.link.outstanding < 16 →
    exec (.laneMode h none) s =
      .next (replied ⟨0x10, h.tag, .badRequest, .laneModeRefused s.receipt.mode s.receipt.state⟩ s) ∧
    (s.receipt.state ≠ .closed → exec (.laneMode h (some mode)) s =
      .next (replied ⟨0x10, h.tag, .wrongState, .laneModeRefused s.receipt.mode s.receipt.state⟩ s)) ∧
    (s.receipt.state = .closed → s.attendant = false → exec (.laneMode h (some mode)) s =
      .next (replied ⟨0x10, h.tag, .attendantRequired, .laneModeRefused s.receipt.mode .closed⟩ s)) ∧
    (s.receipt.state = .closed → s.attendant = true → mode = s.receipt.mode → exec (.laneMode h (some mode)) s =
      .next (replied ⟨0x10, h.tag, .ok, .laneMode mode true⟩ s)) ∧
    (s.receipt.state = .closed → s.attendant = true → mode ≠ s.receipt.mode →
      ∃ t, exec (.laneMode h (some mode)) s = .next t ∧ t.link.outstanding = s.link.outstanding + 1 ∧
        t.link.replies = s.link.replies ++ [⟨0x10, h.tag, .ok, .laneMode mode false⟩] ∧
        t.receipt = { s.receipt with mode := mode } ∧
        t.pricing = { s.pricing with weighing := none } ∧
        (s.pricing.weighing = none → t.chanP = s.chanP) ∧
        (s.pricing.weighing.isSome = true → t.chanP.itemTare = none ∧ t.chanP.operatorTare = s.chanP.operatorTare ∧
          ∀ r, s.chanP.reading = some r → ∃ r', t.chanP.reading = some r' ∧ Reweighed s.met .P t.chanP r r') ∧
        t.bag.queue = [] ∧ t.bag.holdReference = none ∧ t.bag.nextId = s.bag.nextId ∧ t.bag.offered = s.bag.offered ∧
        (mode = .attended → t.bag.reasons = {} ∧ t.bag.wref = none ∧ t.bag.lightOn = false ∧ t.verifier = .idle) ∧
        (mode = .selfService → t.bag.wref = usableNd s ∧
          t.bag.reasons = ⟨false, false, false,
            decide (usableNd s = none ∧ (s.chanB.state ≠ .ready ∨ overloadB s = true))⟩ ∧
          (t.bag.reasons.scaleFault = true → t.bag.lightOn = true ∧ t.bag.lightDue = some (after s.now 500))) ∧
        Told [] ((s.pricing.weighing.map fun w => Event.weighingCancelled w.itemCode .modeChange).toList ++
          (if mode = .attended then
            (if s.bag.reasons.any = true then [.bag (.holdCleared .modeChange s.bag.reasons) {} none] else [])
           else if t.bag.reasons.scaleFault = true then
            [.bag (.scaleFault s.chanB.state (overloadB s)) t.bag.reasons none, .bag .holdEntered t.bag.reasons none]
           else (usableNd s).toList.map fun nd => .bag (.referenceSet nd) {} (some nd)) ++
          [.lane (.modeChanged mode)]) s t ∧
        sameOutside [.link, .latched, .receipt, .pricing, .chanP, .bag] s t = true)

/-- OPEN_RECEIPT and TENDER: the checks in their order, and the accepted requests. That a permit out alone is no discarded permit is the
model's choice, log entry 46. -/
def Obligations.ReceiptOpensAndTakesTenders : Prop :=
  ∀ (h : Header) (n : Nat) (kind : TenderKind) (amount : Int) (slip : Option Nat) (s : State),
    h.wellFormed = true → s.link.outstanding < 16 →
    (n < 1 ∨ 999999 < n → exec (.openReceipt h n) s =
      .next (replied ⟨0x01, h.tag, .outOfRange, .receipt (receiptSummary s.receipt) .none⟩ s)) ∧
    (1 ≤ n → n ≤ 999999 →
      (s.receipt.state = .closing ∨ (s.receipt.state = .closed ∧ s.receipt.marker.isSome = true) →
        exec (.openReceipt h n) s =
          .next (replied ⟨0x01, h.tag, .busy, .receipt (receiptSummary s.receipt) .none⟩ s)) ∧
      (s.receipt.state = .opened ∨ s.receipt.state = .tendering → exec (.openReceipt h n) s =
        .next (replied ⟨0x01, h.tag, .wrongState, .receipt (receiptSummary s.receipt) .none⟩ s)) ∧
      (s.receipt.state = .closed → s.receipt.marker = none → s.params.closeBeforeSale = true →
        s.drawer.state ≠ .closed → exec (.openReceipt h n) s =
          .next (replied ⟨0x01, h.tag, .drawerOpen, .receipt (receiptSummary s.receipt) .none⟩ s)) ∧
      (s.receipt.state = .closed → s.receipt.marker = none →
        (s.params.closeBeforeSale = false ∨ s.drawer.state = .closed) →
        exec (.openReceipt h n) s =
          .next (replied ⟨0x01, h.tag, .ok,
              .receipt ⟨.opened, some n, 0, 0, 0, 0, false, none, s.receipt.mode⟩ (.opened s.receipt.permit)⟩
            (s.setReceipt { s.receipt with
              state := .opened, number := some n, openedTime := some s.now, tickets := [], slips := []
              tenders := [], subtotal := 0, permit := false, permitOut := false })))) ∧
    exec (.tender h none amount slip) s =
      .next (replied ⟨0x02, h.tag, .badRequest, .receipt (receiptSummary s.receipt) .none⟩ s) ∧
    (¬(kind = .card ↔ slip.isSome = true) → exec (.tender h (some kind) amount slip) s =
      .next (replied ⟨0x02, h.tag, .badRequest, .receipt (receiptSummary s.receipt) .none⟩ s)) ∧
    ((kind = .card ↔ slip.isSome = true) →
      (amount < 1 ∨ 99999999 < amount → exec (.tender h (some kind) amount slip) s =
        .next (replied ⟨0x02, h.tag, .outOfRange, .receipt (receiptSummary s.receipt) .none⟩ s)) ∧
      (1 ≤ amount → amount ≤ 99999999 →
        (s.receipt.state = .closed ∨ s.receipt.state = .closing → exec (.tender h (some kind) amount slip) s =
          .next (replied ⟨0x02, h.tag, .wrongState, .receipt (receiptSummary s.receipt) .none⟩ s)) ∧
        (s.receipt.state = .opened ∨ s.receipt.state = .tendering →
          (8 ≤ s.receipt.tenders.length → exec (.tender h (some kind) amount slip) s =
            .next (replied ⟨0x02, h.tag, .tableFull, .receipt (receiptSummary s.receipt) .none⟩ s)) ∧
          (∀ id, s.receipt.tenders.length < 8 → slip = some id →
            (∀ p, s.card.slips.find? (fun x => x.id == id) = some p → p.state = .printed) →
            exec (.tender h (some kind) amount slip) s =
              .next (replied ⟨0x02, h.tag, .unknownSlip, .receipt (receiptSummary s.receipt) .none⟩ s))))) ∧
    (∀ num, 1 ≤ amount → amount ≤ 99999999 → (s.receipt.state = .opened ∨ s.receipt.state = .tendering) →
      s.receipt.number = some num → s.receipt.tenders.length < 8 →
      (kind = .card ↔ slip.isSome = true) →
      (∀ id, slip = some id → ∃ p, s.card.slips.find? (fun x => x.id == id) = some p ∧ p.state ≠ .printed) →
      ∃ t, exec (.tender h (some kind) amount slip) s = .next t ∧
        Replied ⟨0x02, h.tag, .ok, .receipt (receiptSummary t.receipt)
          (.tendered (s.receipt.tenders.length + 1) (s.receipt.tenders.length + 1) t.receipt.permit)⟩ s t ∧
        t.receipt.tenders = s.receipt.tenders ++ [⟨kind, amount.toNat, slip⟩] ∧ t.receipt.state = .tendering ∧
        t.receipt.permit = (s.receipt.permit || kind == .cash) ∧ t.receipt.permitOut = s.receipt.permitOut ∧
        t.receipt.subtotal = s.receipt.subtotal ∧ t.receipt.tickets = s.receipt.tickets ∧
        (slip = none → t.card = s.card ∧ t.receipt.slips = s.receipt.slips) ∧
        (∀ id, slip = some id → id ∈ t.receipt.slips ∧
          (∀ p ∈ t.card.slips, p.id = id → p.state ≠ .held) ∧
          t.card.slips.map (·.id) = s.card.slips.map (·.id)) ∧
        sameOutside [.link, .card, .receipt] s t = true)

/-- CLOSE_RECEIPT: its refusals in their order, the mismatch with the ticket list, and the accepted close, which puts the close marker
behind the records already queued. An accepted ABANDON_RECEIPT: the receipt is CLOSED with nothing on it, its tickets, slips, records and
expectations are gone, its permit is discarded, the abandon marker is pending, a pending switch is made, and after the print events of a
stop that was pending, HOLD_CLEARED, RECEIPT_DONE and TABLE_SWITCHED are told. -/
def Obligations.ReceiptClosesOrIsAbandoned : Prop :=
  (∀ (h : Header) (subtotal : Int) (cut : CutKind) (s : State), h.wellFormed = true → s.link.outstanding < 16 →
     (s.receipt.state = .closed ∨ s.receipt.state = .closing → exec (.closeReceipt h subtotal (some cut)) s =
       .next (replied ⟨0x03, h.tag, .wrongState, .receipt (receiptSummary s.receipt) .none⟩ s)) ∧
     (s.receipt.state = .opened ∨ s.receipt.state = .tendering →
       (s.verifier = .hold → exec (.closeReceipt h subtotal (some cut)) s =
         .next (replied ⟨0x03, h.tag, .baggingHold, .receipt (receiptSummary s.receipt) .none⟩ s)) ∧
       (s.verifier ≠ .hold → s.receipt.mode = .selfService → s.bag.queue ≠ [] →
         exec (.closeReceipt h subtotal (some cut)) s =
           .next (replied ⟨0x03, h.tag, .baggingPending, .receipt (receiptSummary s.receipt) .none⟩ s)) ∧
       (s.verifier ≠ .hold → (s.receipt.mode = .attended ∨ s.bag.queue = []) → subtotal ≠ s.receipt.subtotal →
         exec (.closeReceipt h subtotal (some cut)) s = .next (replied ⟨0x03, h.tag, .subtotalMismatch,
           .receipt (receiptSummary s.receipt) (.mismatch s.receipt.subtotal (s.receipt.tickets.filterMap fun n =>
             (s.pricing.tickets.find? fun k => k.number == n).map fun k =>
               ⟨k.number, k.price, k.state, k.voidRequested⟩))⟩ s)) ∧
       (∀ num, s.verifier ≠ .hold → (s.receipt.mode = .attended ∨ s.bag.queue = []) → subtotal = s.receipt.subtotal →
         s.receipt.number = some num → PrintConsistent s →
         ∃ t, exec (.closeReceipt h subtotal (some cut)) s = .next t ∧ t.link.outstanding = s.link.outstanding + 1 ∧
           t.link.replies = s.link.replies ++ [⟨0x03, h.tag, .ok,
             .receipt (receiptSummary t.receipt) (.closing (some num) s.receipt.subtotal)⟩] ∧
           t.receipt = { s.receipt with state := .closing, marker := some ⟨.close, num, cut⟩ } ∧
           (s.composer.queue ≠ [] → t.composer = { s.composer with
             queue := s.composer.queue ++ [.marker ⟨.close, num, cut⟩] }) ∧
           sameOutside [.link, .latched, .receipt, .composer, .mech, .rail, .pricing, .card, .pgH, .pgD, .drawer] s t
             = true))) ∧
  (∀ (h : Header) (num : Nat) (s : State), h.wellFormed = true → s.link.outstanding < 16 →
     (s.receipt.state = .closed → exec (.abandonReceipt h) s =
       .next (replied ⟨0x04, h.tag, .wrongState, .receipt (receiptSummary s.receipt) .none⟩ s)) ∧
     (s.receipt.state ≠ .closed → s.receipt.mode = .selfService → s.attendant = false →
       exec (.abandonReceipt h) s =
         .next (replied ⟨0x04, h.tag, .attendantRequired, .receipt (receiptSummary s.receipt) .none⟩ s)) ∧
     (s.receipt.state ≠ .closed → (s.receipt.mode = .attended ∨ s.attendant = true) → s.receipt.number = some num →
       PrintConsistent s →
       ∃ t, exec (.abandonReceipt h) s = .next t ∧ t.link.outstanding = s.link.outstanding + 1 ∧
         t.link.replies = s.link.replies ++ [⟨0x04, h.tag, .ok, .receipt (receiptSummary t.receipt)
           (.abandoned (some num) s.receipt.tickets.length s.receipt.slips.length s.receipt.tenders.length
             (s.receipt.tenders.map (·.amount)).sum)⟩] ∧
         t.receipt = { s.receipt with
           state := .closed, marker := some ⟨.abandon, num, .partialCut⟩, tickets := [], slips := [], tenders := []
           subtotal := 0, permit := false, permitOut := false } ∧
         (∀ k ∈ t.pricing.tickets, k.receipt ≠ some num) ∧ (∀ p ∈ t.card.slips, p.receipt ≠ some num) ∧
         t.pricing.weighing = s.pricing.weighing ∧
         t.bag = { s.bag with
           queue := [], reasons := { s.bag.reasons with overdue := false }, lightOn := t.bag.lightOn
           lightDue := t.bag.lightDue } ∧ LightFollows s t ∧ SwitchedAtClose s t ∧
         (∃ stops : List Event, (s.mech.stops = [] → stops = []) ∧ (∀ e ∈ stops, ∃ k, e = .print k) ∧
           Placed (stops ++ boundaryEvents .expectationGone s t ++ receiptDoneOf .abandoned s :: switchEvents s t) s t ∧
           (24 < s.link.alerts.length +
               (stops ++ boundaryEvents .expectationGone s t ++ receiptDoneOf .abandoned s :: switchEvents s t).length →
             Condition.alertOverflow ∈ t.latched)) ∧
         (∀ content, QueueItem.record content (some num) ∉ t.composer.queue) ∧ s.composer.owed ≤ t.composer.owed ∧
         sameOutside [.link, .latched, .receipt, .composer, .mech, .rail, .pricing, .items, .bag, .card, .pgH, .pgD,
           .drawer] s t = true))

/-! ### The Print Composer -/

/-- The arrival of a print record: without a credit it is discarded unexamined; malformed it is discarded with an event; a TEXT_LINE,
FEED or CUT in form joins the Print Queue with its tag, and is composed at once from an empty queue when the Line Queue has room. -/
def Obligations.PrintRecordsAreTaken : Prop :=
  ∀ (c : Instr) (code : Byte) (s : State), printRecordCode c = some code →
    (64 ≤ recordCount s.composer →
      ∃ t, exec c s = .next t ∧ Told [.intakeOverrun] [] s t ∧ t.link.receiver = { phase := .frame } ∧
        sameOutside [.link, .latched] s t = true) ∧
    (recordCount s.composer < 64 → malformedRecord c = true →
      ∃ t, exec c s = .next t ∧ RecordDiscarded code none .malformed s t) ∧
    (∀ content, recordCount s.composer < 64 → plainContent c = some content →
      s.composer.queue ≠ [] ∨ (s.composer.lines ≠ [] ∧ Settled s) →
      ∃ t, exec c s = .next t ∧ Joined content s t ∧ t.link = { s.link with receiver := { phase := .frame } } ∧
        sameOutside [.link, .composer] s t = true)

/-- WEIGHED_LINE, VOID_LINE and CARD_LINE: the answers that do not resolve, and the effect of each answer that does, with the record
joined in the same event. -/
def Obligations.ReferencesAreResolved : Prop :=
  ∀ (n num : Nat) (s : State), recordCount s.composer < 64 →
    (s.receipt.state = .closed ∨ s.receipt.state = .closing →
      (∃ t, exec (.weighedLine (some n)) s = .next t ∧ RecordDiscarded 0x22 (some n) .noReceipt s t) ∧
      (∃ t, exec (.voidLine (some n)) s = .next t ∧ RecordDiscarded 0x23 (some n) .noReceipt s t) ∧
      (∃ t, exec (.cardLine (some n)) s = .next t ∧ RecordDiscarded 0x24 (some n) .noReceipt s t)) ∧
    (s.receipt.state = .opened ∨ s.receipt.state = .tendering → s.receipt.number = some num →
      (findTicket s n = none →
        (∃ t, exec (.weighedLine (some n)) s = .next t ∧ RecordDiscarded 0x22 (some n) .notKnown s t) ∧
        (∃ t, exec (.voidLine (some n)) s = .next t ∧ RecordDiscarded 0x23 (some n) .notKnown s t)) ∧
      (findSlip s n = none →
        ∃ t, exec (.cardLine (some n)) s = .next t ∧ RecordDiscarded 0x24 (some n) .notKnown s t) ∧
      (∀ k, findTicket s n = some k →
        (k.state ≠ .locked →
          ∃ t, exec (.weighedLine (some n)) s = .next t ∧ RecordDiscarded 0x22 (some n) .duplicate s t) ∧
        (k.state = .locked ∨ k.receipt ≠ some num →
          ∃ t, exec (.voidLine (some n)) s = .next t ∧ RecordDiscarded 0x23 (some n) .notKnown s t) ∧
        (k.state ≠ .locked → k.receipt = some num → k.voidRequested = true →
          ∃ t, exec (.voidLine (some n)) s = .next t ∧ RecordDiscarded 0x23 (some n) .duplicate s t)) ∧
      (∀ p, findSlip s n = some p → p.state ≠ .held → (p.state = .printed ∨ p.lineRequested = true) →
        ∃ t, exec (.cardLine (some n)) s = .next t ∧ RecordDiscarded 0x24 (some n) .duplicate s t) ∧
      (s.composer.queue ≠ [] ∨ (s.composer.lines ≠ [] ∧ Settled s) →
        (∀ k, findTicket s n = some k → k.state = .locked →
          ∃ t, exec (.weighedLine (some n)) s = .next t ∧ Joined (.weighed n) s t ∧
            t.link = { s.link with receiver := { phase := .frame } } ∧
            t.receipt = { s.receipt with
              tickets := s.receipt.tickets ++ [n], subtotal := s.receipt.subtotal + k.price } ∧
            t.pricing = { s.pricing with tickets := s.pricing.tickets.map fun x =>
              if x.number == n then { x with state := .attached, receipt := some num } else x } ∧
            sameOutside [.link, .receipt, .pricing, .composer] s t = true) ∧
        (∀ k, findTicket s n = some k → k.state ≠ .locked → k.receipt = some num → k.voidRequested = false →
          ∃ t, exec (.voidLine (some n)) s = .next t ∧ Joined (.void n) s t ∧
            t.link = { s.link with receiver := { phase := .frame } } ∧
            t.receipt = { s.receipt with subtotal := s.receipt.subtotal - k.price } ∧
            t.pricing = { s.pricing with tickets := s.pricing.tickets.map fun x =>
              if x.number == n then { x with voidRequested := true } else x } ∧
            sameOutside [.link, .receipt, .pricing, .composer] s t = true) ∧
        (∀ p, findSlip s n = some p → (p.state = .held ∨ (p.state = .attached ∧ p.lineRequested = false)) →
          ∃ t, exec (.cardLine (some n)) s = .next t ∧ Joined (.card n) s t ∧
            t.link = { s.link with receiver := { phase := .frame } } ∧
            t.receipt = { s.receipt with
              slips := if n ∈ s.receipt.slips then s.receipt.slips else s.receipt.slips ++ [n] } ∧
            (∃ q, findSlip t n = some q ∧ q.lineRequested = true ∧ q.state = .attached ∧
              (p.state = .held → q.receipt = some num)) ∧
            sameOutside [.link, .receipt, .card, .composer] s t = true)))

/-- The composer takes the oldest item when the Line Queue has room for all it produces and waits otherwise; and the first entry of
an empty Line Queue sets the print state and claims or keeps the motor hold: with the stepper claim granted at once, or with the hold
still LINGERING, work on the entry begins in the same event. That COMPOSE_ITEM finds no work left where nothing fits or nothing is queued
is log entry 17. -/
def Obligations.ComposerTakesItems : Prop :=
  ∀ s : State,
    (s.composer.queue = [] → s.composer.lines ≠ [] → Settled s → exec .composeItem s = .next s) ∧
    (∀ i rest, s.composer.queue = i :: rest → s.composer.lines ≠ [] → Settled s →
      (8 < s.composer.lines.length + (itemEntries s i).length → exec .composeItem s = .next s) ∧
      (s.composer.lines.length + (itemEntries s i).length ≤ 8 →
        exec .composeItem s = .next (s.setComposer
          ⟨rest, s.composer.lines ++ itemEntries s i,
            s.composer.owed + if i.isRecord = true then 1 else 0⟩))) ∧
    (∀ c content e, plainContent c = some content → recordCount s.composer < 64 → s.composer.queue = [] →
      s.composer.lines = [] → s.mech.state = .idle → s.mech.stops = [] → s.mech.row = none →
      recordEntries s (printTag s.receipt) content = [e] →
      (∀ who, s.mech.hold = .released → s.rail.stepper.phase = .none → firstWaiting s.rail = some who →
        who = .drawer ∨ who = .cutter → s.ceff < s.rail.granted + (s.rail.claim who).units →
        exec c s = .next ((((s.setLink { s.link with receiver := { phase := .frame } }).setComposer
            ⟨[], [e], s.composer.owed + 1⟩).setMech
          { s.mech with
            state := stateFor e s.mech.overheat, hold := .claiming
            stepperUnits := some s.params.stepperUnits }).setRail
          { s.rail with stepper := ⟨.waiting, s.params.stepperUnits, s.now⟩ })) ∧
      (∀ m rail, s.mech.flushed = false → NoneWaiting s →
        (s.mech.hold = .released ∧ s.rail.stepper.phase = .none ∧
            s.rail.granted + s.params.stepperUnits ≤ s.ceff ∧
            m = { s.mech with hold := .held, stepperUnits := some s.params.stepperUnits } ∧
            rail = { s.rail with stepper := ⟨.granted, s.params.stepperUnits, s.now⟩ }) ∨
          (s.mech.hold = .lingering ∧ m = { s.mech with hold := .held, lingerDue := none } ∧ rail = s.rail) →
        ∃ t, exec c s = .next t ∧
          WorkBegun e m rail s t ∧ t.link = { s.link with receiver := { phase := .frame } } ∧
          (entryKind e = .cutMark ∨ s.mech.done + 1 < entryRows e → t.composer = ⟨[], [e], s.composer.owed + 1⟩) ∧
          sameOutside [.link, .composer, .mech, .rail, .pgH] s t = true))

/-! ### The Print Mechanism and the drive rail -/

/-- PG-H drives the strobe from the end of its wait; at the end of its pulse the head claim is released and the next group is claimed,
granted, loaded and triggered in the same event, or split again when its claim exceeds the present capacity, and after the last group
the row waits for its step. That the new groups and their claims go by the DOT_CURRENT and STROBE_DOTS then in force is log entry 21; that PULSE_BEGIN
and PULSE_END change nothing when not due or in another phase is log entry 12. -/
def Obligations.HeadPulsesFireTheGroups : Prop :=
  ∀ s : State,
    (s.pgH.phase = .waiting → genDue s.pgH s.clock = true → exec (.pulseBegin .H) s = .next (s.setPgH
      { s.pgH with phase := .pulsing, due := some (s.clock + BitVec.ofNat 64 s.pgH.pulse) })) ∧
    (s.pgH.phase ≠ .waiting ∨ genDue s.pgH s.clock = false → exec (.pulseBegin .H) s = .next s) ∧
    (s.pgH.phase ≠ .pulsing ∨ genDue s.pgH s.clock = false → exec (.pulseEnd .H) s = .next s) ∧
    (∀ r, s.pgH.phase = .pulsing → genDue s.pgH s.clock = true → s.mech.row = some r → s.rail.drawer.phase ≠ .waiting →
      s.rail.cutter.phase ≠ .waiting → s.rail.stepper.phase ≠ .waiting →
      (r.index + 1 < r.groups.length → s.ceff - heldUnits s < groupUnits r.dotCurrent (nextGroup r) →
        ∃ t r', exec (.pulseEnd .H) s = .next t ∧ t.mech.row = some r' ∧ r'.index = r.index + 1 ∧
          r'.dotCurrent = s.params.dotCurrent ∧
          r'.groups = r.groups.take (r.index + 1) ++ splitGroups s (r.groups.drop (r.index + 1)).flatten ∧
          sameOutside [.mech, .rail, .pgH] s t = true) ∧
      (r.index + 1 < r.groups.length → groupUnits r.dotCurrent (nextGroup r) ≤ s.ceff - heldUnits s →
        s.pgH.next = none →
        grantedUnits s.rail.drawer + grantedUnits s.rail.cutter + grantedUnits s.rail.stepper +
          groupUnits r.dotCurrent (nextGroup r) ≤ s.ceff →
        exec (.pulseEnd .H) s = .next (((s.setMech
            { s.mech with
              headDots := nextGroup r
              row := some { r with index := r.index + 1, phase := .firing } }).setRail
            { s.rail with head := ⟨.granted, groupUnits r.dotCurrent (nextGroup r), s.now⟩ }).setPgH
            { phase := if s.params.headSettle = 0 then .pulsing else .waiting
              wait := s.params.headSettle, pulse := heatTime s.params s.mech.band, next := none
              due := some (s.clock + BitVec.ofNat 64
                (if s.params.headSettle = 0 then heatTime s.params s.mech.band else s.params.headSettle)) })) ∧
      (r.groups.length ≤ r.index + 1 → stepReady s = false →
        exec (.pulseEnd .H) s = .next (((s.setMech
            { s.mech with row := some { r with index := r.index + 1, phase := .awaiting } }).setRail
            { s.rail with head := {} }).setPgH { s.pgH with phase := .idle, due := none })))

/-- A step under a row that waits for it: the rows done go up, and then a pending stop is entered, WAIT_HOT is entered, the next row
begins, or the finished run leaves with its notice; and the release measure gives the stepper claim up. That PAPER_STEP and RELEASE_MEASURE_EXPIRY
change nothing when their premise does not hold is log entry 12. That a stop pending at the step of the last row is entered before the
entry is judged finished, so that the entry stays at the head with all its rows done and its notice unpassed, is read by inference, log
entry 20; a pending stop of a first settling tells nothing at its entry, log entry 30. -/
def Obligations.PaperIsStepped : Prop :=
  ∀ (e : LineEntry) (s : State),
    (rowPhase s ≠ some .awaiting ∨ stepReady s = false → exec .paperStep s = .next s) ∧
    (rowPhase s = some .awaiting → stepReady s = true → s.mech.state = .running → s.mech.flushed = false →
      s.headEntry = some e → grantable s = none →
      (∀ p, s.mech.stops = [p] → ∃ t, exec .paperStep s = .next t ∧
        t.mech = { s.mech with
          state := .stopped, reason := some (.sensor p.sensor), stops := [], row := none, done := s.mech.done + 1
          lastStep := some s.clock } ∧
        Told (if p.silent = true then [] else [stopCondition p.sensor])
          (if p.silent = true then []
           else [.print (.stopped p.sensor (some (entryKind e)) (s.mech.done + 1) s.composer.lines.length)]) s t ∧
        sameOutside [.mech, .link, .latched] s t = true) ∧
      (s.mech.stops = [] → s.mech.done + 1 < entryRows e →
        (entryKind e = .textRun → s.mech.overheat = true → exec .paperStep s = .next (s.setMech
          { s.mech with
            state := .waitHot, row := none, done := s.mech.done + 1, lastStep := some s.clock })) ∧
        (nextRowDots e (s.mech.done + 1) = [] → entryKind e = .feedRun ∨ s.mech.overheat = false →
          exec .paperStep s = .next (s.setMech
            { s.mech with
              row := some ⟨[], 0, .awaiting, s.params.dotCurrent⟩, done := s.mech.done + 1
              lastStep := some s.clock })) ∧
        (nextRowDots e (s.mech.done + 1) ≠ [] → entryKind e = .textRun → s.mech.overheat = false →
          ∃ t r, exec .paperStep s = .next t ∧ t.mech.row = some r ∧ r.index = 0 ∧
            r.groups = splitGroups s (nextRowDots e (s.mech.done + 1)) ∧ t.mech.done = s.mech.done + 1 ∧
            t.mech.lastStep = some s.clock ∧ t.mech.state = .running ∧ t.composer = s.composer)) ∧
      (s.mech.stops = [] → entryRows e ≤ s.mech.done + 1 → s.composer.lines = [e] → s.composer.queue = [] →
        (∀ kind m, e.notice ≠ some (.markerCut kind m)) →
        ∃ t, exec .paperStep s = .next t ∧ t.composer.lines = [] ∧
          t.mech = { s.mech with
            state := .idle, row := none, done := 0, lastStep := some s.clock, hold := .lingering
            lingerDue := some (after s.now 50) } ∧
          (∀ n, e.notice = some (.ticketPrinted n) → t.pricing = { s.pricing with
            tickets := s.pricing.tickets.map fun k =>
              if k.number = n ∧ k.state = .attached then { k with state := .printed } else k }) ∧
          (∀ n, e.notice = some (.ticketVoided n) → t.pricing = { s.pricing with
            tickets := s.pricing.tickets.map fun k =>
              if k.number = n ∧ k.state = .printed then { k with state := .voided } else k }) ∧
          (∀ n, e.notice = some (.slipPrinted n) → t.card = { s.card with
            slips := s.card.slips.map fun p =>
              if p.id = n ∧ p.state = .attached then { p with state := .printed } else p }) ∧
          sameOutside [.mech, .composer, .pricing, .card] s t = true)) ∧
    (s.mech.hold = .lingering → dueReached s.now s.mech.lingerDue = true → NoneWaiting s → rowPhase s ≠ some .reached →
      exec .releaseMeasureExpiry s = .next ((s.setMech
        { s.mech with hold := .released, stepperUnits := none, lingerDue := none }).setRail
        { s.rail with stepper := {} })) ∧
    (s.mech.hold ≠ .lingering ∨ dueReached s.now s.mech.lingerDue = false →
      exec .releaseMeasureExpiry s = .next s)

/-- A cut: the grant of its claim starts the 800 ms limit, the blade's home arrival completes it, and the limit's expiry is a jam;
and a re-examination that finds no waiting claim that fits changes nothing. The completed cut of the close marker ends the receipt, with
RECEIPT_DONE and the pending switch of the Item Table; that of a marker naming another receipt is dropped. That a first settling of the
blade at home completes no cut is log entry 30, that CLAIM_GRANT finds no work left log entry 17, that CUTTER_JAM changes nothing when not
due log entry 12. -/
def Obligations.CutsCompleteOrJam : Prop :=
  ∀ s : State,
    (Settled s → exec .claimGrant s = .next s) ∧
    (s.rail.cutter.phase = .waiting → s.rail.drawer.phase ≠ .waiting → s.rail.stepper.phase ≠ .waiting →
      s.rail.head.phase ≠ .waiting → s.rail.granted + s.rail.cutter.units ≤ s.ceff → rowPhase s ≠ some .reached →
      exec .claimGrant s = .next ((s.setRail
        { s.rail with cutter := { s.rail.cutter with phase := .granted } }).setMech
        { s.mech with jamDue := some (after s.now 800) })) ∧
    (∀ e, s.mech.home = false → s.mech.homeSettled = true → s.mech.jamDue.isSome = true → s.mech.hold = .held →
      s.mech.stops = [] → s.mech.state = .cutting → s.composer.lines = [e] → s.composer.queue = [] → NoneWaiting s →
      ∃ t, exec (.cutterHome true) s = .next t ∧ t.composer.lines = [] ∧ t.rail = { s.rail with cutter := {} } ∧
        t.mech = { s.mech with
          state := .idle, home := true, jamDue := none, done := 0, row := none, flushed := false, hold := .lingering
          lingerDue := some (after s.now 50) } ∧
        (e.notice = none → sameOutside [.mech, .composer, .rail] s t = true) ∧
        (∀ m n, s.receipt.marker = some m → m.kind = .abandon → m.receipt = n →
          e.notice = some (.markerCut .abandon n) → t.receipt = { s.receipt with marker := none } ∧
            sameOutside [.mech, .composer, .rail, .receipt] s t = true) ∧
        (∀ n, s.receipt.state = .closing → s.receipt.number = some n → e.notice = some (.markerCut .close n) →
          t.receipt = { s.receipt with
            state := .closed, marker := none, tickets := [], slips := [], tenders := [], subtotal := 0 } ∧
          ReceiptCleared n s t ∧ SwitchedAtClose s t ∧ Told [] (receiptDoneOf .closed s :: switchEvents s t) s t ∧
          sameOutside [.mech, .composer, .rail, .receipt, .pricing, .card, .items, .link, .latched] s t = true) ∧
        (∀ n, s.receipt.state ≠ .closing ∨ s.receipt.number ≠ some n → e.notice = some (.markerCut .close n) →
          sameOutside [.mech, .composer, .rail] s t = true)) ∧
    (∀ home, home = false ∨ s.mech.home = true ∨ s.mech.homeSettled = false ∨ s.mech.jamDue = none →
      exec (.cutterHome home) s = .next (s.setMech { s.mech with home := home, homeSettled := true })) ∧
    (dueReached s.now s.mech.jamDue = true → s.mech.stops = [] → s.mech.row = none → NoneWaiting s →
      ∃ t, exec .cutterJam s = .next t ∧ t.rail = { s.rail with cutter := {} } ∧
        t.mech = { s.mech with state := .stopped, reason := some .cutterJam, jamDue := none } ∧
        Told [.cutterJam] [.print .cutterJam] s t ∧ sameOutside [.mech, .rail, .link, .latched] s t = true) ∧
    (dueReached s.now s.mech.jamDue = false → exec .cutterJam s = .next s)

/-- Paper-out and cover-open stop the mechanism at once, after the row or cut in progress, or change nothing but the conditions in
STOPPED; a first settling as active latches its condition at once and tells nothing, paper-out before cover-open; near-end only warns; and
PRINT_RESUME restarts a stopped mechanism with both sensors clear: with the motor hold HELD, work on the
head entry begins again in that event. That a run whose rows were all on paper is finished by the resumption is log entry 20; that the
event of a stop carries an absent kind and the rows done as they stand when the Line Queue is empty is the model's choice, log entry 51; that a first
settling with a row or a cut in progress leaves a stop pending, silently, is log entry 30. -/
def Obligations.StopsAndResumption : Prop :=
  ∀ s : State,
    (∀ x, exec (sensorCommand x false) s = .next (s.setMech (withSensor s.mech x false))) ∧
    (∀ x, sensorActive s.mech x = true →
      exec (sensorCommand x true) s = .next (s.setMech (withSensor s.mech x true))) ∧
    (∀ x, sensorActive s.mech x = false → sensorSettled s.mech x = true →
      (s.mech.state = .stopped → ∃ t, exec (sensorCommand x true) s = .next t ∧
        t.mech = withSensor s.mech x true ∧
        Told [stopCondition x]
          [.print (.stopped x (s.headEntry.map entryKind) s.mech.done s.composer.lines.length)] s t ∧
        sameOutside [.mech, .link, .latched] s t = true) ∧
      (s.mech.state = .idle ∨ s.mech.state = .waitHot ∨ (s.mech.state = .running ∧ s.mech.row = none) ∨
          (s.mech.state = .cutting ∧ s.rail.cutter.phase = .none) →
        ∃ t, exec (sensorCommand x true) s = .next t ∧
          t.mech = { withSensor s.mech x true with state := .stopped, reason := some (.sensor x), stops := [] } ∧
          Told [stopCondition x]
            [.print (.stopped x (s.headEntry.map entryKind) s.mech.done s.composer.lines.length)] s t ∧
          sameOutside [.mech, .link, .latched] s t = true) ∧
      ((s.mech.state = .running ∧ s.mech.row.isSome = true) ∨
          (s.mech.state = .cutting ∧ s.rail.cutter.phase ≠ .none) → (∀ p ∈ s.mech.stops, p.sensor ≠ x) →
        exec (sensorCommand x true) s =
          .next (s.setMech { withSensor s.mech x true with stops := s.mech.stops ++ [⟨x, false⟩] }))) ∧
    (∀ x, sensorActive s.mech x = false → sensorSettled s.mech x = false →
      ∃ t, exec (sensorCommand x true) s = .next t ∧ Told [stopCondition x] [] s t ∧
        sameOutside [.mech, .latched] s t = true ∧
        (s.mech.state = .idle ∨ s.mech.state = .waitHot ∨ (s.mech.state = .running ∧ s.mech.row = none) ∨
            (s.mech.state = .cutting ∧ s.rail.cutter.phase = .none) →
          t.mech = { withSensor s.mech x true with state := .stopped, reason := some (.sensor x) }) ∧
        (s.mech.state = .stopped → t.mech = { withSensor s.mech x true with
          reason := if x = .paperOut ∧ s.mech.reason = some (.sensor .coverOpen) then some (.sensor .paperOut)
            else s.mech.reason }) ∧
        ((s.mech.state = .running ∧ s.mech.row.isSome = true) ∨
            (s.mech.state = .cutting ∧ s.rail.cutter.phase ≠ .none) →
          t.mech = { withSensor s.mech x true with
            stops := match x with
              | .paperOut => ⟨.paperOut, true⟩ :: s.mech.stops
              | .coverOpen => s.mech.stops ++ [⟨.coverOpen, true⟩] })) ∧
    (∀ active, ∃ t, exec (.nearEndSensor active) s = .next t ∧
      t.mech = { s.mech with nearEnd := active, nearSettled := true } ∧
      Told (if active = true ∧ s.mech.nearEnd = false then [.paperLow] else []) [] s t ∧
      sameOutside [.mech, .latched] s t = true) ∧
    (∀ h : Header, h.wellFormed = true → s.link.outstanding < 16 →
      (s.mech.state ≠ .stopped ∨ s.mech.paperOut = true ∨ s.mech.coverOpen = true →
        exec (.printResume h) s = .next (replied ⟨0x05, h.tag, .wrongState,
          .resumeRefused s.mech.state s.mech.reason s.mech.paperOut s.mech.coverOpen⟩ s)) ∧
      (s.mech.state = .stopped → s.mech.paperOut = false → s.mech.coverOpen = false → Settled s →
        s.mech.hold ≠ .held →
        (∀ e, s.headEntry = some e → entryKind e = .cutMark ∨ s.mech.done < entryRows e) →
        ∃ t, exec (.printResume h) s = .next t ∧
          t.link.replies = s.link.replies ++ [⟨0x05, h.tag, .ok, .resumed s.mech.reason t.mech.state⟩] ∧
          t.link.outstanding = s.link.outstanding + 1 ∧ Told [] [.print (.resumed s.mech.reason)] s t ∧
          t.mech = { s.mech with
            reason := none
            state := match s.headEntry with
              | none => .idle
              | some e => stateFor e s.mech.overheat } ∧
          sameOutside [.mech, .link, .latched] s t = true) ∧
      (∀ e, s.mech.state = .stopped → s.mech.paperOut = false → s.mech.coverOpen = false → NoneWaiting s →
        s.mech.hold = .held → s.mech.row = none → s.mech.stops = [] → s.mech.flushed = false →
        s.headEntry = some e →
        (entryKind e = .cutMark ∨ s.mech.done < entryRows e →
          ∃ t, exec (.printResume h) s = .next t ∧ WorkBegun e { s.mech with reason := none } s.rail s t ∧
            t.link.replies = s.link.replies ++ [⟨0x05, h.tag, .ok, .resumed s.mech.reason t.mech.state⟩] ∧
            t.link.outstanding = s.link.outstanding + 1 ∧
            (entryKind e = .cutMark ∨ s.mech.done + 1 < entryRows e →
              Told [] [.print (.resumed s.mech.reason)] s t ∧ t.composer = s.composer ∧
              sameOutside [.mech, .rail, .pgH, .link, .latched] s t = true)) ∧
        (entryKind e ≠ .cutMark → entryRows e ≤ s.mech.done → s.composer.lines = [e] → s.composer.queue = [] →
          (∀ kind n, e.notice ≠ some (.markerCut kind n)) →
          ∃ t, exec (.printResume h) s = .next t ∧
            t.link.replies = s.link.replies ++ [⟨0x05, h.tag, .ok, .resumed s.mech.reason .idle⟩] ∧
            t.link.outstanding = s.link.outstanding + 1 ∧ Told [] [.print (.resumed s.mech.reason)] s t ∧
            t.composer = { s.composer with lines := [] } ∧
            t.mech = { s.mech with
              state := .idle, reason := none, done := 0, hold := .lingering, lingerDue := some (after s.now 50) } ∧
            (∀ n, e.notice = some (.ticketPrinted n) → t.pricing = { s.pricing with
              tickets := s.pricing.tickets.map fun k =>
                if k.number = n ∧ k.state = .attached then { k with state := .printed } else k }) ∧
            sameOutside [.mech, .composer, .pricing, .card, .link, .latched] s t = true)))

/-- The housekeeping samples: the head temperature sets the band and the overheat flag with its hysteresis, and the rail voltage sets
Rail Low and Ceff with theirs; the events of each change, and WAIT_HOT left in the event of the cooling. -/
def Obligations.HousekeepingSamplesAreJudged : Prop :=
  ∀ s : State,
    (∀ celsius : Int,
      (s.mech.overheat = overheatAfter s.mech.overheat celsius → exec (.headTemperatureSample celsius) s =
        .next (s.setMech { s.mech with celsius := celsius, band := bandFor celsius, sampled := true })) ∧
      (s.mech.overheat = false → 65 ≤ celsius → ∃ t, exec (.headTemperatureSample celsius) s = .next t ∧
        t.mech = { s.mech with celsius := celsius, band := .over65, overheat := true, sampled := true } ∧
        Told [.headHot] (if s.mech.sampled = true then [.print (.headHot celsius)] else []) s t ∧
        sameOutside [.mech, .link, .latched] s t = true) ∧
      (s.mech.overheat = true → celsius < 55 → s.mech.state ≠ .waitHot →
        ∃ t, exec (.headTemperatureSample celsius) s = .next t ∧
          t.mech = { s.mech with celsius := celsius, band := bandFor celsius, overheat := false, sampled := true } ∧
          Told [] [.print (.headCooled celsius)] s t ∧ sameOutside [.mech, .link, .latched] s t = true) ∧
      (∀ e, s.mech.overheat = true → celsius < 55 → s.mech.state = .waitHot → s.headEntry = some e →
        entryKind e = .textRun → s.mech.hold = .held → s.mech.row = none → s.mech.stops = [] → grantable s = none →
        nextRowDots e s.mech.done ≠ [] →
        ∃ t r, exec (.headTemperatureSample celsius) s = .next t ∧ t.mech.state = .running ∧
          t.mech.row = some r ∧ r.index = 0 ∧ r.groups = splitGroups s (nextRowDots e s.mech.done) ∧
          Told [] [.print (.headCooled celsius)] s t)) ∧
    (∀ tenths : Nat,
      (s.rail.low = railLowAfter s.rail.low s.params.railLowLimit tenths →
        exec (.railVoltageSample tenths) s = .next (s.setRail { s.rail with voltage := tenths })) ∧
      (s.rail.low = false → tenths < s.params.railLowLimit → s.rail.head.phase ≠ .waiting → Settled s →
        ∃ t, exec (.railVoltageSample tenths) s = .next t ∧
          t.rail = { s.rail with voltage := tenths, low := true } ∧ t.ceff = s.params.railCapacity / 2 ∧
          Told [.railLow] [.lane (.railLow tenths (s.params.railCapacity / 2) s.rail.granted)] s t ∧
          sameOutside [.rail, .link, .latched] s t = true) ∧
      (s.rail.low = true → s.params.railLowLimit + 5 < tenths → NoneWaiting s → rowPhase s ≠ some .reached →
        ∃ t, exec (.railVoltageSample tenths) s = .next t ∧
          t.rail = { s.rail with voltage := tenths, low := false } ∧ t.ceff = s.params.railCapacity ∧
          Told [] [.lane (.railOk tenths s.params.railCapacity s.rail.granted)] s t ∧
          sameOutside [.rail, .link, .latched] s t = true))

/-! ### The Drawer Controller -/

/-- DRAWER_RELEASE: its refusals in their order, and an accepted release, which uses a permit of 1 and whose claim is granted in the
same event when it fits and waits otherwise. That PG-D is timed in whole milliseconds of the lane clock is log entry 54. -/
def Obligations.DrawerReleaseIsJudged : Prop :=
  ∀ (h : Header) (s : State), h.wellFormed = true → s.link.outstanding < 16 →
    (s.drawer.state = .opened → exec (.drawerRelease h) s =
      .next (replied ⟨0x01, h.tag, .drawerOpen, .releaseRefused .opened s.receipt.permit⟩ s)) ∧
    (s.drawer.state ≠ .opened → s.drawer.state ≠ .closed → exec (.drawerRelease h) s =
      .next (replied ⟨0x01, h.tag, .busy, .releaseRefused s.drawer.state s.receipt.permit⟩ s)) ∧
    (s.drawer.state = .closed → s.receipt.mode = .selfService → s.attendant = false →
      exec (.drawerRelease h) s =
        .next (replied ⟨0x01, h.tag, .attendantRequired, .releaseRefused .closed s.receipt.permit⟩ s)) ∧
    (s.drawer.state = .closed → s.receipt.mode = .attended → s.receipt.permit = false → s.attendant = false →
      exec (.drawerRelease h) s =
        .next (replied ⟨0x01, h.tag, .noPermit, .releaseRefused .closed false⟩ s)) ∧
    (s.drawer.state = .closed → s.attendant = true ∨ (s.receipt.mode = .attended ∧ s.receipt.permit = true) →
      s.rail.drawer.phase = .none → s.pgD.phase = .idle → rowPhase s ≠ some .reached →
      (s.ceff < s.rail.granted + s.params.drawerUnits →
        exec (.drawerRelease h) s = .next ((((replied
            ⟨0x01, h.tag, .ok, .released (if s.receipt.permit = true then .permit else .noSale) s.params.drawerRetries⟩ s).setReceipt
            (if s.receipt.permit = true then { s.receipt with permit := false, permitOut := true } else s.receipt)).setRail
            { s.rail with drawer := ⟨.waiting, s.params.drawerUnits, s.now⟩ }).setDrawer
            { s.drawer with
              state := .claiming
              authorization := some (if s.receipt.permit = true then .permit else .noSale)
              retriesLeft := s.params.drawerRetries, attempts := 1, confirmDue := none, openedInPulse := none })) ∧
      (s.rail.granted + s.params.drawerUnits ≤ s.ceff → NoneWaiting s → s.pgD.next = none → s.pgD.wait ≠ 0 →
        exec (.drawerRelease h) s = .next (((((replied
            ⟨0x01, h.tag, .ok, .released (if s.receipt.permit = true then .permit else .noSale) s.params.drawerRetries⟩ s).setReceipt
            (if s.receipt.permit = true then { s.receipt with permit := false, permitOut := true } else s.receipt)).setRail
            { s.rail with drawer := ⟨.granted, s.params.drawerUnits, s.now⟩ }).setDrawer
            { s.drawer with
              state := .pulseWait
              authorization := some (if s.receipt.permit = true then .permit else .noSale)
              retriesLeft := s.params.drawerRetries, attempts := 1, confirmDue := none, openedInPulse := none }).setPgD
            { s.pgD with phase := .waiting, due := some (s.now + BitVec.ofNat 32 s.pgD.wait) })))

/-- The attempts of a release: the pulse drives the solenoid, its end starts the confirmation or tells an opening seen during the pulse,
and the confirmation's expiry retries or ends the release NOT_OPENED with the permit restored. That an opening which ended during the pulse
is told closed at the pulse end, with the time up to it, is log entry 22; that PULSE_BEGIN, PULSE_END and CONFIRM_TIMEOUT change nothing
when not due is log entry 12; that PG-D is timed in whole milliseconds of the lane clock is log entry 54. -/
def Obligations.ReleaseRunsItsAttempts : Prop :=
  ∀ s : State,
    (s.pgD.phase = .waiting → genDue s.pgD s.now = true → exec (.pulseBegin .D) s = .next ((s.setPgD
        { s.pgD with phase := .pulsing, due := some (s.now + BitVec.ofNat 32 s.pgD.pulse) }).setDrawer
        { s.drawer with state := .pulsing })) ∧
    (s.pgD.phase ≠ .waiting ∨ genDue s.pgD s.now = false → exec (.pulseBegin .D) s = .next s) ∧
    (s.pgD.phase ≠ .pulsing ∨ genDue s.pgD s.now = false → exec (.pulseEnd .D) s = .next s) ∧
    (s.pgD.phase = .pulsing → genDue s.pgD s.now = true → s.rail.cutter.phase ≠ .waiting →
      s.rail.stepper.phase ≠ .waiting → s.rail.head.phase ≠ .waiting → rowPhase s ≠ some .reached →
      (s.drawer.openedInPulse = none → exec (.pulseEnd .D) s = .next (((s.setPgD
          { s.pgD with phase := .idle, due := none }).setRail { s.rail with drawer := {} }).setDrawer
          { s.drawer with
            state := .confirming, polarity := s.params.drawerPolarity
            confirmDue := some (after s.now s.params.drawerConfirm) })) ∧
      (∀ stamp, s.drawer.openedInPulse = some stamp →
        ∃ t, exec (.pulseEnd .D) s = .next t ∧ t.rail = { s.rail with drawer := {} } ∧ t.pgD.phase = .idle ∧
          t.drawer.authorization = none ∧ t.drawer.retriesLeft = 0 ∧ t.drawer.openedInPulse = none ∧
          t.receipt = { s.receipt with permitOut := false } ∧
          (s.sensorOpen = true → t.drawer.state = .opened ∧ t.drawer.cause = some .release ∧
            t.drawer.openStamp = some stamp ∧ t.drawer.tooLong = false ∧
            Told [] [.drawer (.opened s.drawer.authorization s.drawer.attempts)] s t) ∧
          (s.sensorOpen = false → t.drawer.state = .closed ∧ t.drawer.openStamp = none ∧ t.drawer.cause = none ∧
            Told [] [.drawer (.opened s.drawer.authorization s.drawer.attempts),
              .drawer (.closed (some .release) (age s.now stamp) false)] s t) ∧
          sameOutside [.pgD, .rail, .drawer, .receipt, .link, .latched] s t = true)) ∧
    (s.drawer.state ≠ .confirming ∨ dueReached s.now s.drawer.confirmDue = false →
      exec .confirmTimeout s = .next s) ∧
    (s.drawer.state = .confirming → dueReached s.now s.drawer.confirmDue = true →
      (s.drawer.retriesLeft = 0 → ∃ t, exec .confirmTimeout s = .next t ∧
        t.drawer = { s.drawer with
          state := .closed, authorization := none, confirmDue := none, openedInPulse := none } ∧
        t.receipt = { s.receipt with permit := s.receipt.permit || s.receipt.permitOut, permitOut := false } ∧
        Told [.notOpened] [.drawer (.notOpened s.drawer.authorization s.drawer.attempts)] s t ∧
        sameOutside [.drawer, .receipt, .link, .latched] s t = true) ∧
      (∀ n, s.drawer.retriesLeft = n + 1 → s.rail.drawer.phase = .none → rowPhase s ≠ some .reached →
        s.ceff < s.rail.granted + s.params.drawerUnits →
        exec .confirmTimeout s = .next ((s.setRail
          { s.rail with drawer := ⟨.waiting, s.params.drawerUnits, s.now⟩ }).setDrawer
          { s.drawer with
            state := .claiming, confirmDue := none, retriesLeft := n, attempts := s.drawer.attempts + 1 })))

/-- The drawer sensor: a first settling, a forced opening, the end of a release, an opening during the pulse and the closing; and the
open limit, reported once for an opening. That a command naming no change, or an OPEN_TOO_LONG not due, changes nothing is log entry 12;
that a later opening in the same pulse replaces the stamp is log entry 22. -/
def Obligations.DrawerSensorIsSupervised : Prop :=
  ∀ s : State,
    (∀ high, s.drawer.level = some high →
      exec (.drawerSensorChange high) s = .next s) ∧
    (∀ high, s.drawer.level = none →
      (levelOpen s.params.drawerSensorPolarity high = false → exec (.drawerSensorChange high) s =
        .next (s.setDrawer { s.drawer with level := some high })) ∧
      (levelOpen s.params.drawerSensorPolarity high = true → s.drawer.state = .closed →
        exec (.drawerSensorChange high) s = .next (s.setDrawer
          { s.drawer with
            level := some high, state := .opened, cause := some .start, openStamp := some s.now, tooLong := false }))) ∧
    (∀ high, s.drawer.level = some (!high) →
      (levelOpen s.params.drawerSensorPolarity high = true →
        (s.drawer.state = .closed → ∃ t, exec (.drawerSensorChange high) s = .next t ∧
          t.drawer = { s.drawer with
            level := some high, state := .opened, cause := some .forced, openStamp := some s.now, tooLong := false } ∧
          Told [.forcedOpen] [.drawer .forcedOpen] s t ∧ sameOutside [.drawer, .link, .latched] s t = true) ∧
        (s.drawer.state = .pulsing → exec (.drawerSensorChange high) s = .next (s.setDrawer
          { s.drawer with level := some high, openedInPulse := some s.now })) ∧
        (s.drawer.state = .confirming ∨
            ((s.drawer.state = .claiming ∨ s.drawer.state = .pulseWait) ∧ s.rail.cutter.phase ≠ .waiting ∧
              s.rail.stepper.phase ≠ .waiting ∧ s.rail.head.phase ≠ .waiting ∧ rowPhase s ≠ some .reached) →
          ∃ t, exec (.drawerSensorChange high) s = .next t ∧
            t.drawer.state = .opened ∧ t.drawer.cause = some .release ∧ t.drawer.openStamp = some s.now ∧
            t.drawer.tooLong = false ∧ t.drawer.authorization = none ∧ t.drawer.retriesLeft = 0 ∧
            t.drawer.confirmDue = none ∧ t.receipt = { s.receipt with permitOut := false } ∧
            Told [] [.drawer (.opened s.drawer.authorization s.drawer.attempts)] s t ∧
            (s.drawer.state ≠ .confirming → t.rail = { s.rail with drawer := {} } ∧ t.pgD.phase = .idle) ∧
            (s.drawer.state = .confirming → t.rail = s.rail ∧ t.pgD = s.pgD) ∧
            sameOutside [.drawer, .receipt, .rail, .pgD, .link, .latched] s t = true)) ∧
      (levelOpen s.params.drawerSensorPolarity high = false →
        (s.drawer.state ≠ .opened → exec (.drawerSensorChange high) s =
          .next (s.setDrawer { s.drawer with level := some high })) ∧
        (∀ stamp, s.drawer.state = .opened → s.drawer.openStamp = some stamp →
          ∃ t, exec (.drawerSensorChange high) s = .next t ∧
            t.drawer = { s.drawer with
              level := some high, state := .closed, cause := none, openStamp := none, tooLong := false } ∧
            Told [] [.drawer (.closed s.drawer.cause (age s.now stamp) s.drawer.tooLong)] s t ∧
            sameOutside [.drawer, .link, .latched] s t = true))) ∧
    (∀ stamp, s.drawer.openStamp = some stamp →
      (s.drawer.state = .opened → s.drawer.tooLong = false → s.params.drawerOpenLimit * 1000 ≤ age s.now stamp →
        ∃ t, exec .openTooLong s = .next t ∧ t.drawer = { s.drawer with tooLong := true } ∧
          Told [.openTooLong] [.drawer (.openTooLong (age s.now stamp) s.drawer.cause)] s t ∧
          sameOutside [.drawer, .link, .latched] s t = true) ∧
      (s.drawer.state ≠ .opened ∨ s.drawer.tooLong = true ∨ age s.now stamp < s.params.drawerOpenLimit * 1000 →
        exec .openTooLong s = .next s))

/-! ### The lane lines -/

/-- LINES_WRITE: each line's mode and data give its new latch, a line with a role is skipped, and the pin of an OUT line without a role
follows its latch in that event. -/
def Obligations.LinesWriteSetsLatches : Prop :=
  ∀ (h : Header) (mode data : BitVec 8) (s : State), h.wellFormed = true → s.link.outstanding < 16 →
    ∃ t, exec (.linesWrite h mode data) s = .next t ∧
      Replied ⟨0x12, h.tag, .ok, .lineLatches t.lines.latches (roleLines s.params)⟩ s t ∧
      (∀ i : Fin 8, (roleLines s.params).getLsbD i = true ↔
        s.params.holdLightLine = some i ∨ s.params.printerLightLine = some i) ∧
      (∀ i : Fin 8, t.lines.latches.getLsbD i =
        if s.params.holdLightLine = some i ∨ s.params.printerLightLine = some i then s.lines.latches.getLsbD i
        else if mode.getLsbD i = true then
          (if data.getLsbD i = true then !s.lines.latches.getLsbD i else s.lines.latches.getLsbD i)
        else data.getLsbD i) ∧
      (∀ i : Fin 8, s.lines.directions.getLsbD i = true → s.params.holdLightLine ≠ some i →
        s.params.printerLightLine ≠ some i → t.pinLevel i = t.lines.latches.getLsbD i) ∧
      t.lines = { s.lines with latches := t.lines.latches } ∧ t.attendant = s.attendant ∧
      (∀ l : Lines, l.directions = t.lines.directions → l.latches = t.lines.latches → ∀ i : Fin 8,
        s.params.holdLightLine ≠ some i → s.params.printerLightLine ≠ some i →
        (State.setLines t (redirect l (l.directions ||| BitVec.twoPow 8 i))).pinLevel i = t.lines.latches.getLsbD i) ∧
      sameOutside [.link, .lines] s t = true

/-- LINES_CONFIG and the debounced inputs: a line whose direction changes loses its input and keeps its latch, a condition takes its
definition, the tested lines give the four flags, and the attendant condition's change is told. -/
def Obligations.LinesAndConditionsFollow : Prop :=
  (∀ (h : Header) (d : BitVec 8) (s : State), h.wellFormed = true → s.link.outstanding < 16 →
    ∃ t, exec (.linesConfigDirections h d) s = .next t ∧
      Replied ⟨0x11, h.tag, .ok, .lineDirections d s.lines.latches⟩ s t ∧
      t.lines.directions = d ∧ t.lines.latches = s.lines.latches ∧ t.lines.conditions = s.lines.conditions ∧
      (∀ i : Fin 8, t.lines.inputs.get i =
        if s.lines.directions.getLsbD i = d.getLsbD i then s.lines.inputs.get i else none) ∧
      Told [] (if s.attendant = t.attendant then []
        else if t.attendant = true then [.lane (.attendantOn s.params.attendantCondition)]
        else [.lane (.attendantOff s.params.attendantCondition)]) s t ∧
      sameOutside [.link, .latched, .lines] s t = true) ∧
  (∀ (h : Header) (i : Fin 4) (mask pattern : BitVec 8) (sense : Sense) (s : State), h.wellFormed = true →
    s.link.outstanding < 16 →
    ∃ t, exec (.linesConfigCondition h (some i) mask pattern (some sense)) s = .next t ∧
      Replied ⟨0x11, h.tag, .ok, .lineCondition (lineFlags t.lines ⟨mask, pattern, sense⟩)
        (conditionValue t.lines ⟨mask, pattern, sense⟩)⟩ s t ∧
      t.lines = { s.lines with conditions := s.lines.conditions.set i ⟨mask, pattern, sense⟩ i.isLt } ∧
      Told [] (if s.attendant = t.attendant then []
        else if t.attendant = true then [.lane (.attendantOn s.params.attendantCondition)]
        else [.lane (.attendantOff s.params.attendantCondition)]) s t ∧
      sameOutside [.link, .latched, .lines] s t = true) ∧
  (∀ (i : Fin 8) (level : Bool) (s : State),
    (s.lines.directions.getLsbD i = true → exec (.lineInputChange i level) s = .next s) ∧
    (s.lines.directions.getLsbD i = false → ∃ t, exec (.lineInputChange i level) s = .next t ∧
      t.lines = { s.lines with inputs := s.lines.inputs.set i (some level) i.isLt } ∧
      Told [] (if s.attendant = t.attendant then []
        else if t.attendant = true then [.lane (.attendantOn s.params.attendantCondition)]
        else [.lane (.attendantOff s.params.attendantCondition)]) s t ∧
      sameOutside [.link, .latched, .lines] s t = true)) ∧
  (∀ (l : Lines) (c : LineCondition),
    (∀ i : Fin 8, i ∈ testedLines l c ↔
      c.mask.getLsbD i = true ∧ l.directions.getLsbD i = false ∧ (l.inputs.get i).isSome = true) ∧
    (testedLines l c = [] → lineFlags l c = ⟨false, false, false, false⟩) ∧
    (testedLines l c ≠ [] →
      ((lineFlags l c).allMatch = true ↔
        ∀ i ∈ testedLines l c, l.inputs.get i = some (c.pattern.getLsbD i)) ∧
      ((lineFlags l c).noneMatch = true ↔
        ∀ i ∈ testedLines l c, l.inputs.get i ≠ some (c.pattern.getLsbD i)) ∧
      ((lineFlags l c).anyMatch = true ↔
        ∃ i ∈ testedLines l c, l.inputs.get i = some (c.pattern.getLsbD i)) ∧
      ((lineFlags l c).anyMismatch = true ↔
        ∃ i ∈ testedLines l c, l.inputs.get i ≠ some (c.pattern.getLsbD i))))

/-! ### What every step keeps -/

/-- The granted drive-rail claims stay within RAIL_CAPACITY, and the solenoid is driven only in PULSING and under a granted claim:
every step keeps both, from every state that has them. -/
def Obligations.StepKeepsRailAndSolenoidLaws : Prop :=
  ∀ s t : State, RailWithin s → SolenoidSafe s → step s = .next t → RailWithin t ∧ SolenoidSafe t

/-- The request ledger, the capacities of the queues and the store-current rule: every step keeps the three together; and every step keeps
what the audit counter needs of its area, and never makes the counter smaller. That an area read back good with another count is kept bad
is log entry 38. -/
def Obligations.StepKeepsLedgerAndCapacities : Prop :=
  (∀ s t : State, CreditsExact s → WithinCapacity s → StoreCurrent s → step s = .next t →
    CreditsExact t ∧ WithinCapacity t ∧ StoreCurrent t) ∧
  (∀ s t : State, AuditKept s → step s = .next t → AuditKept t ∧ s.store.audit ≤ t.store.audit)

/-- Tickets, slips and the weighed subtotal stay with the receipt that owns them. -/
def Obligations.StepKeepsTheSaleConsistent : Prop :=
  ∀ s t : State, SaleConsistent s → step s = .next t → SaleConsistent t

/-- The banks stay ordered, the hold reasons stay with what causes them, and account digits stay only where they may be. -/
def Obligations.StepKeepsBanksHoldAndAccounts : Prop :=
  ∀ s t : State, BanksOrdered s → HoldConsistent s → AccountsHidden s → step s = .next t →
    BanksOrdered t ∧ HoldConsistent t ∧ AccountsHidden t

/-- The Print Mechanism stays in step with the Line Queue, its claims and its generator. -/
def Obligations.StepKeepsPrintConsistent : Prop :=
  ∀ s t : State, PrintConsistent s → step s = .next t → PrintConsistent t

/-- The state after reset meets every one of those properties. -/
def Obligations.ResetMeetsTheInvariants : Prop :=
  RailWithin State.reset ∧ SolenoidSafe State.reset ∧ CreditsExact State.reset ∧ WithinCapacity State.reset ∧
  StoreCurrent State.reset ∧ SaleConsistent State.reset ∧ BanksOrdered State.reset ∧ HoldConsistent State.reset ∧
  AccountsHidden State.reset ∧ PrintConsistent State.reset ∧ AuditKept State.reset
end

