-- ==== Sys2Proof/Laws/State.lean ====
section
/-! SUPPORT. Reading a field after a block update: one lemma per field per update, so that no proof unfolds a record update. -/

namespace Sys2Proof.Machine

variable (s : State) (c : Chan)

@[simp] theorem setLink_pending (v : Link) : (s.setLink v).pending = s.pending := rfl
@[simp] theorem setLink_clock (v : Link) : (s.setLink v).clock = s.clock := rfl
@[simp] theorem setLink_latched (v : Link) : (s.setLink v).latched = s.latched := rfl
@[simp] theorem setLink_link (v : Link) : (s.setLink v).link = v := rfl
@[simp] theorem setLink_params (v : Link) : (s.setLink v).params = s.params := rfl
@[simp] theorem setLink_store (v : Link) : (s.setLink v).store = s.store := rfl
@[simp] theorem setLink_chanP (v : Link) : (s.setLink v).chanP = s.chanP := rfl
@[simp] theorem setLink_chanB (v : Link) : (s.setLink v).chanB = s.chanB := rfl
@[simp] theorem setLink_pricing (v : Link) : (s.setLink v).pricing = s.pricing := rfl
@[simp] theorem setLink_items (v : Link) : (s.setLink v).items = s.items := rfl
@[simp] theorem setLink_bag (v : Link) : (s.setLink v).bag = s.bag := rfl
@[simp] theorem setLink_card (v : Link) : (s.setLink v).card = s.card := rfl
@[simp] theorem setLink_receipt (v : Link) : (s.setLink v).receipt = s.receipt := rfl
@[simp] theorem setLink_composer (v : Link) : (s.setLink v).composer = s.composer := rfl
@[simp] theorem setLink_mech (v : Link) : (s.setLink v).mech = s.mech := rfl
@[simp] theorem setLink_rail (v : Link) : (s.setLink v).rail = s.rail := rfl
@[simp] theorem setLink_pgH (v : Link) : (s.setLink v).pgH = s.pgH := rfl
@[simp] theorem setLink_pgD (v : Link) : (s.setLink v).pgD = s.pgD := rfl
@[simp] theorem setLink_drawer (v : Link) : (s.setLink v).drawer = s.drawer := rfl
@[simp] theorem setLink_lines (v : Link) : (s.setLink v).lines = s.lines := rfl

@[simp] theorem setParams_pending (v : Params) : (s.setParams v).pending = s.pending := rfl
@[simp] theorem setParams_clock (v : Params) : (s.setParams v).clock = s.clock := rfl
@[simp] theorem setParams_latched (v : Params) : (s.setParams v).latched = s.latched := rfl
@[simp] theorem setParams_link (v : Params) : (s.setParams v).link = s.link := rfl
@[simp] theorem setParams_params (v : Params) : (s.setParams v).params = v := rfl
@[simp] theorem setParams_store (v : Params) : (s.setParams v).store = s.store := rfl
@[simp] theorem setParams_chanP (v : Params) : (s.setParams v).chanP = s.chanP := rfl
@[simp] theorem setParams_chanB (v : Params) : (s.setParams v).chanB = s.chanB := rfl
@[simp] theorem setParams_pricing (v : Params) : (s.setParams v).pricing = s.pricing := rfl
@[simp] theorem setParams_items (v : Params) : (s.setParams v).items = s.items := rfl
@[simp] theorem setParams_bag (v : Params) : (s.setParams v).bag = s.bag := rfl
@[simp] theorem setParams_card (v : Params) : (s.setParams v).card = s.card := rfl
@[simp] theorem setParams_receipt (v : Params) : (s.setParams v).receipt = s.receipt := rfl
@[simp] theorem setParams_composer (v : Params) : (s.setParams v).composer = s.composer := rfl
@[simp] theorem setParams_mech (v : Params) : (s.setParams v).mech = s.mech := rfl
@[simp] theorem setParams_rail (v : Params) : (s.setParams v).rail = s.rail := rfl
@[simp] theorem setParams_pgH (v : Params) : (s.setParams v).pgH = s.pgH := rfl
@[simp] theorem setParams_pgD (v : Params) : (s.setParams v).pgD = s.pgD := rfl
@[simp] theorem setParams_drawer (v : Params) : (s.setParams v).drawer = s.drawer := rfl
@[simp] theorem setParams_lines (v : Params) : (s.setParams v).lines = s.lines := rfl

@[simp] theorem setStore_pending (v : Store) : (s.setStore v).pending = s.pending := rfl
@[simp] theorem setStore_clock (v : Store) : (s.setStore v).clock = s.clock := rfl
@[simp] theorem setStore_latched (v : Store) : (s.setStore v).latched = s.latched := rfl
@[simp] theorem setStore_link (v : Store) : (s.setStore v).link = s.link := rfl
@[simp] theorem setStore_params (v : Store) : (s.setStore v).params = s.params := rfl
@[simp] theorem setStore_store (v : Store) : (s.setStore v).store = v := rfl
@[simp] theorem setStore_chanP (v : Store) : (s.setStore v).chanP = s.chanP := rfl
@[simp] theorem setStore_chanB (v : Store) : (s.setStore v).chanB = s.chanB := rfl
@[simp] theorem setStore_pricing (v : Store) : (s.setStore v).pricing = s.pricing := rfl
@[simp] theorem setStore_items (v : Store) : (s.setStore v).items = s.items := rfl
@[simp] theorem setStore_bag (v : Store) : (s.setStore v).bag = s.bag := rfl
@[simp] theorem setStore_card (v : Store) : (s.setStore v).card = s.card := rfl
@[simp] theorem setStore_receipt (v : Store) : (s.setStore v).receipt = s.receipt := rfl
@[simp] theorem setStore_composer (v : Store) : (s.setStore v).composer = s.composer := rfl
@[simp] theorem setStore_mech (v : Store) : (s.setStore v).mech = s.mech := rfl
@[simp] theorem setStore_rail (v : Store) : (s.setStore v).rail = s.rail := rfl
@[simp] theorem setStore_pgH (v : Store) : (s.setStore v).pgH = s.pgH := rfl
@[simp] theorem setStore_pgD (v : Store) : (s.setStore v).pgD = s.pgD := rfl
@[simp] theorem setStore_drawer (v : Store) : (s.setStore v).drawer = s.drawer := rfl
@[simp] theorem setStore_lines (v : Store) : (s.setStore v).lines = s.lines := rfl

@[simp] theorem setPricing_pending (v : Pricing) : (s.setPricing v).pending = s.pending := rfl
@[simp] theorem setPricing_clock (v : Pricing) : (s.setPricing v).clock = s.clock := rfl
@[simp] theorem setPricing_latched (v : Pricing) : (s.setPricing v).latched = s.latched := rfl
@[simp] theorem setPricing_link (v : Pricing) : (s.setPricing v).link = s.link := rfl
@[simp] theorem setPricing_params (v : Pricing) : (s.setPricing v).params = s.params := rfl
@[simp] theorem setPricing_store (v : Pricing) : (s.setPricing v).store = s.store := rfl
@[simp] theorem setPricing_chanP (v : Pricing) : (s.setPricing v).chanP = s.chanP := rfl
@[simp] theorem setPricing_chanB (v : Pricing) : (s.setPricing v).chanB = s.chanB := rfl
@[simp] theorem setPricing_pricing (v : Pricing) : (s.setPricing v).pricing = v := rfl
@[simp] theorem setPricing_items (v : Pricing) : (s.setPricing v).items = s.items := rfl
@[simp] theorem setPricing_bag (v : Pricing) : (s.setPricing v).bag = s.bag := rfl
@[simp] theorem setPricing_card (v : Pricing) : (s.setPricing v).card = s.card := rfl
@[simp] theorem setPricing_receipt (v : Pricing) : (s.setPricing v).receipt = s.receipt := rfl
@[simp] theorem setPricing_composer (v : Pricing) : (s.setPricing v).composer = s.composer := rfl
@[simp] theorem setPricing_mech (v : Pricing) : (s.setPricing v).mech = s.mech := rfl
@[simp] theorem setPricing_rail (v : Pricing) : (s.setPricing v).rail = s.rail := rfl
@[simp] theorem setPricing_pgH (v : Pricing) : (s.setPricing v).pgH = s.pgH := rfl
@[simp] theorem setPricing_pgD (v : Pricing) : (s.setPricing v).pgD = s.pgD := rfl
@[simp] theorem setPricing_drawer (v : Pricing) : (s.setPricing v).drawer = s.drawer := rfl
@[simp] theorem setPricing_lines (v : Pricing) : (s.setPricing v).lines = s.lines := rfl

@[simp] theorem setItems_pending (v : Items) : (s.setItems v).pending = s.pending := rfl
@[simp] theorem setItems_clock (v : Items) : (s.setItems v).clock = s.clock := rfl
@[simp] theorem setItems_latched (v : Items) : (s.setItems v).latched = s.latched := rfl
@[simp] theorem setItems_link (v : Items) : (s.setItems v).link = s.link := rfl
@[simp] theorem setItems_params (v : Items) : (s.setItems v).params = s.params := rfl
@[simp] theorem setItems_store (v : Items) : (s.setItems v).store = s.store := rfl
@[simp] theorem setItems_chanP (v : Items) : (s.setItems v).chanP = s.chanP := rfl
@[simp] theorem setItems_chanB (v : Items) : (s.setItems v).chanB = s.chanB := rfl
@[simp] theorem setItems_pricing (v : Items) : (s.setItems v).pricing = s.pricing := rfl
@[simp] theorem setItems_items (v : Items) : (s.setItems v).items = v := rfl
@[simp] theorem setItems_bag (v : Items) : (s.setItems v).bag = s.bag := rfl
@[simp] theorem setItems_card (v : Items) : (s.setItems v).card = s.card := rfl
@[simp] theorem setItems_receipt (v : Items) : (s.setItems v).receipt = s.receipt := rfl
@[simp] theorem setItems_composer (v : Items) : (s.setItems v).composer = s.composer := rfl
@[simp] theorem setItems_mech (v : Items) : (s.setItems v).mech = s.mech := rfl
@[simp] theorem setItems_rail (v : Items) : (s.setItems v).rail = s.rail := rfl
@[simp] theorem setItems_pgH (v : Items) : (s.setItems v).pgH = s.pgH := rfl
@[simp] theorem setItems_pgD (v : Items) : (s.setItems v).pgD = s.pgD := rfl
@[simp] theorem setItems_drawer (v : Items) : (s.setItems v).drawer = s.drawer := rfl
@[simp] theorem setItems_lines (v : Items) : (s.setItems v).lines = s.lines := rfl

@[simp] theorem setBag_pending (v : Bag) : (s.setBag v).pending = s.pending := rfl
@[simp] theorem setBag_clock (v : Bag) : (s.setBag v).clock = s.clock := rfl
@[simp] theorem setBag_latched (v : Bag) : (s.setBag v).latched = s.latched := rfl
@[simp] theorem setBag_link (v : Bag) : (s.setBag v).link = s.link := rfl
@[simp] theorem setBag_params (v : Bag) : (s.setBag v).params = s.params := rfl
@[simp] theorem setBag_store (v : Bag) : (s.setBag v).store = s.store := rfl
@[simp] theorem setBag_chanP (v : Bag) : (s.setBag v).chanP = s.chanP := rfl
@[simp] theorem setBag_chanB (v : Bag) : (s.setBag v).chanB = s.chanB := rfl
@[simp] theorem setBag_pricing (v : Bag) : (s.setBag v).pricing = s.pricing := rfl
@[simp] theorem setBag_items (v : Bag) : (s.setBag v).items = s.items := rfl
@[simp] theorem setBag_bag (v : Bag) : (s.setBag v).bag = v := rfl
@[simp] theorem setBag_card (v : Bag) : (s.setBag v).card = s.card := rfl
@[simp] theorem setBag_receipt (v : Bag) : (s.setBag v).receipt = s.receipt := rfl
@[simp] theorem setBag_composer (v : Bag) : (s.setBag v).composer = s.composer := rfl
@[simp] theorem setBag_mech (v : Bag) : (s.setBag v).mech = s.mech := rfl
@[simp] theorem setBag_rail (v : Bag) : (s.setBag v).rail = s.rail := rfl
@[simp] theorem setBag_pgH (v : Bag) : (s.setBag v).pgH = s.pgH := rfl
@[simp] theorem setBag_pgD (v : Bag) : (s.setBag v).pgD = s.pgD := rfl
@[simp] theorem setBag_drawer (v : Bag) : (s.setBag v).drawer = s.drawer := rfl
@[simp] theorem setBag_lines (v : Bag) : (s.setBag v).lines = s.lines := rfl

@[simp] theorem setCard_pending (v : Card) : (s.setCard v).pending = s.pending := rfl
@[simp] theorem setCard_clock (v : Card) : (s.setCard v).clock = s.clock := rfl
@[simp] theorem setCard_latched (v : Card) : (s.setCard v).latched = s.latched := rfl
@[simp] theorem setCard_link (v : Card) : (s.setCard v).link = s.link := rfl
@[simp] theorem setCard_params (v : Card) : (s.setCard v).params = s.params := rfl
@[simp] theorem setCard_store (v : Card) : (s.setCard v).store = s.store := rfl
@[simp] theorem setCard_chanP (v : Card) : (s.setCard v).chanP = s.chanP := rfl
@[simp] theorem setCard_chanB (v : Card) : (s.setCard v).chanB = s.chanB := rfl
@[simp] theorem setCard_pricing (v : Card) : (s.setCard v).pricing = s.pricing := rfl
@[simp] theorem setCard_items (v : Card) : (s.setCard v).items = s.items := rfl
@[simp] theorem setCard_bag (v : Card) : (s.setCard v).bag = s.bag := rfl
@[simp] theorem setCard_card (v : Card) : (s.setCard v).card = v := rfl
@[simp] theorem setCard_receipt (v : Card) : (s.setCard v).receipt = s.receipt := rfl
@[simp] theorem setCard_composer (v : Card) : (s.setCard v).composer = s.composer := rfl
@[simp] theorem setCard_mech (v : Card) : (s.setCard v).mech = s.mech := rfl
@[simp] theorem setCard_rail (v : Card) : (s.setCard v).rail = s.rail := rfl
@[simp] theorem setCard_pgH (v : Card) : (s.setCard v).pgH = s.pgH := rfl
@[simp] theorem setCard_pgD (v : Card) : (s.setCard v).pgD = s.pgD := rfl
@[simp] theorem setCard_drawer (v : Card) : (s.setCard v).drawer = s.drawer := rfl
@[simp] theorem setCard_lines (v : Card) : (s.setCard v).lines = s.lines := rfl

@[simp] theorem setReceipt_pending (v : Receipt) : (s.setReceipt v).pending = s.pending := rfl
@[simp] theorem setReceipt_clock (v : Receipt) : (s.setReceipt v).clock = s.clock := rfl
@[simp] theorem setReceipt_latched (v : Receipt) : (s.setReceipt v).latched = s.latched := rfl
@[simp] theorem setReceipt_link (v : Receipt) : (s.setReceipt v).link = s.link := rfl
@[simp] theorem setReceipt_params (v : Receipt) : (s.setReceipt v).params = s.params := rfl
@[simp] theorem setReceipt_store (v : Receipt) : (s.setReceipt v).store = s.store := rfl
@[simp] theorem setReceipt_chanP (v : Receipt) : (s.setReceipt v).chanP = s.chanP := rfl
@[simp] theorem setReceipt_chanB (v : Receipt) : (s.setReceipt v).chanB = s.chanB := rfl
@[simp] theorem setReceipt_pricing (v : Receipt) : (s.setReceipt v).pricing = s.pricing := rfl
@[simp] theorem setReceipt_items (v : Receipt) : (s.setReceipt v).items = s.items := rfl
@[simp] theorem setReceipt_bag (v : Receipt) : (s.setReceipt v).bag = s.bag := rfl
@[simp] theorem setReceipt_card (v : Receipt) : (s.setReceipt v).card = s.card := rfl
@[simp] theorem setReceipt_receipt (v : Receipt) : (s.setReceipt v).receipt = v := rfl
@[simp] theorem setReceipt_composer (v : Receipt) : (s.setReceipt v).composer = s.composer := rfl
@[simp] theorem setReceipt_mech (v : Receipt) : (s.setReceipt v).mech = s.mech := rfl
@[simp] theorem setReceipt_rail (v : Receipt) : (s.setReceipt v).rail = s.rail := rfl
@[simp] theorem setReceipt_pgH (v : Receipt) : (s.setReceipt v).pgH = s.pgH := rfl
@[simp] theorem setReceipt_pgD (v : Receipt) : (s.setReceipt v).pgD = s.pgD := rfl
@[simp] theorem setReceipt_drawer (v : Receipt) : (s.setReceipt v).drawer = s.drawer := rfl
@[simp] theorem setReceipt_lines (v : Receipt) : (s.setReceipt v).lines = s.lines := rfl

@[simp] theorem setComposer_pending (v : Composer) : (s.setComposer v).pending = s.pending := rfl
@[simp] theorem setComposer_clock (v : Composer) : (s.setComposer v).clock = s.clock := rfl
@[simp] theorem setComposer_latched (v : Composer) : (s.setComposer v).latched = s.latched := rfl
@[simp] theorem setComposer_link (v : Composer) : (s.setComposer v).link = s.link := rfl
@[simp] theorem setComposer_params (v : Composer) : (s.setComposer v).params = s.params := rfl
@[simp] theorem setComposer_store (v : Composer) : (s.setComposer v).store = s.store := rfl
@[simp] theorem setComposer_chanP (v : Composer) : (s.setComposer v).chanP = s.chanP := rfl
@[simp] theorem setComposer_chanB (v : Composer) : (s.setComposer v).chanB = s.chanB := rfl
@[simp] theorem setComposer_pricing (v : Composer) : (s.setComposer v).pricing = s.pricing := rfl
@[simp] theorem setComposer_items (v : Composer) : (s.setComposer v).items = s.items := rfl
@[simp] theorem setComposer_bag (v : Composer) : (s.setComposer v).bag = s.bag := rfl
@[simp] theorem setComposer_card (v : Composer) : (s.setComposer v).card = s.card := rfl
@[simp] theorem setComposer_receipt (v : Composer) : (s.setComposer v).receipt = s.receipt := rfl
@[simp] theorem setComposer_composer (v : Composer) : (s.setComposer v).composer = v := rfl
@[simp] theorem setComposer_mech (v : Composer) : (s.setComposer v).mech = s.mech := rfl
@[simp] theorem setComposer_rail (v : Composer) : (s.setComposer v).rail = s.rail := rfl
@[simp] theorem setComposer_pgH (v : Composer) : (s.setComposer v).pgH = s.pgH := rfl
@[simp] theorem setComposer_pgD (v : Composer) : (s.setComposer v).pgD = s.pgD := rfl
@[simp] theorem setComposer_drawer (v : Composer) : (s.setComposer v).drawer = s.drawer := rfl
@[simp] theorem setComposer_lines (v : Composer) : (s.setComposer v).lines = s.lines := rfl

@[simp] theorem setMech_pending (v : Mech) : (s.setMech v).pending = s.pending := rfl
@[simp] theorem setMech_clock (v : Mech) : (s.setMech v).clock = s.clock := rfl
@[simp] theorem setMech_latched (v : Mech) : (s.setMech v).latched = s.latched := rfl
@[simp] theorem setMech_link (v : Mech) : (s.setMech v).link = s.link := rfl
@[simp] theorem setMech_params (v : Mech) : (s.setMech v).params = s.params := rfl
@[simp] theorem setMech_store (v : Mech) : (s.setMech v).store = s.store := rfl
@[simp] theorem setMech_chanP (v : Mech) : (s.setMech v).chanP = s.chanP := rfl
@[simp] theorem setMech_chanB (v : Mech) : (s.setMech v).chanB = s.chanB := rfl
@[simp] theorem setMech_pricing (v : Mech) : (s.setMech v).pricing = s.pricing := rfl
@[simp] theorem setMech_items (v : Mech) : (s.setMech v).items = s.items := rfl
@[simp] theorem setMech_bag (v : Mech) : (s.setMech v).bag = s.bag := rfl
@[simp] theorem setMech_card (v : Mech) : (s.setMech v).card = s.card := rfl
@[simp] theorem setMech_receipt (v : Mech) : (s.setMech v).receipt = s.receipt := rfl
@[simp] theorem setMech_composer (v : Mech) : (s.setMech v).composer = s.composer := rfl
@[simp] theorem setMech_mech (v : Mech) : (s.setMech v).mech = v := rfl
@[simp] theorem setMech_rail (v : Mech) : (s.setMech v).rail = s.rail := rfl
@[simp] theorem setMech_pgH (v : Mech) : (s.setMech v).pgH = s.pgH := rfl
@[simp] theorem setMech_pgD (v : Mech) : (s.setMech v).pgD = s.pgD := rfl
@[simp] theorem setMech_drawer (v : Mech) : (s.setMech v).drawer = s.drawer := rfl
@[simp] theorem setMech_lines (v : Mech) : (s.setMech v).lines = s.lines := rfl

@[simp] theorem setRail_pending (v : Rail) : (s.setRail v).pending = s.pending := rfl
@[simp] theorem setRail_clock (v : Rail) : (s.setRail v).clock = s.clock := rfl
@[simp] theorem setRail_latched (v : Rail) : (s.setRail v).latched = s.latched := rfl
@[simp] theorem setRail_link (v : Rail) : (s.setRail v).link = s.link := rfl
@[simp] theorem setRail_params (v : Rail) : (s.setRail v).params = s.params := rfl
@[simp] theorem setRail_store (v : Rail) : (s.setRail v).store = s.store := rfl
@[simp] theorem setRail_chanP (v : Rail) : (s.setRail v).chanP = s.chanP := rfl
@[simp] theorem setRail_chanB (v : Rail) : (s.setRail v).chanB = s.chanB := rfl
@[simp] theorem setRail_pricing (v : Rail) : (s.setRail v).pricing = s.pricing := rfl
@[simp] theorem setRail_items (v : Rail) : (s.setRail v).items = s.items := rfl
@[simp] theorem setRail_bag (v : Rail) : (s.setRail v).bag = s.bag := rfl
@[simp] theorem setRail_card (v : Rail) : (s.setRail v).card = s.card := rfl
@[simp] theorem setRail_receipt (v : Rail) : (s.setRail v).receipt = s.receipt := rfl
@[simp] theorem setRail_composer (v : Rail) : (s.setRail v).composer = s.composer := rfl
@[simp] theorem setRail_mech (v : Rail) : (s.setRail v).mech = s.mech := rfl
@[simp] theorem setRail_rail (v : Rail) : (s.setRail v).rail = v := rfl
@[simp] theorem setRail_pgH (v : Rail) : (s.setRail v).pgH = s.pgH := rfl
@[simp] theorem setRail_pgD (v : Rail) : (s.setRail v).pgD = s.pgD := rfl
@[simp] theorem setRail_drawer (v : Rail) : (s.setRail v).drawer = s.drawer := rfl
@[simp] theorem setRail_lines (v : Rail) : (s.setRail v).lines = s.lines := rfl

@[simp] theorem setPgH_pending (v : PulseGen 64) : (s.setPgH v).pending = s.pending := rfl
@[simp] theorem setPgH_clock (v : PulseGen 64) : (s.setPgH v).clock = s.clock := rfl
@[simp] theorem setPgH_latched (v : PulseGen 64) : (s.setPgH v).latched = s.latched := rfl
@[simp] theorem setPgH_link (v : PulseGen 64) : (s.setPgH v).link = s.link := rfl
@[simp] theorem setPgH_params (v : PulseGen 64) : (s.setPgH v).params = s.params := rfl
@[simp] theorem setPgH_store (v : PulseGen 64) : (s.setPgH v).store = s.store := rfl
@[simp] theorem setPgH_chanP (v : PulseGen 64) : (s.setPgH v).chanP = s.chanP := rfl
@[simp] theorem setPgH_chanB (v : PulseGen 64) : (s.setPgH v).chanB = s.chanB := rfl
@[simp] theorem setPgH_pricing (v : PulseGen 64) : (s.setPgH v).pricing = s.pricing := rfl
@[simp] theorem setPgH_items (v : PulseGen 64) : (s.setPgH v).items = s.items := rfl
@[simp] theorem setPgH_bag (v : PulseGen 64) : (s.setPgH v).bag = s.bag := rfl
@[simp] theorem setPgH_card (v : PulseGen 64) : (s.setPgH v).card = s.card := rfl
@[simp] theorem setPgH_receipt (v : PulseGen 64) : (s.setPgH v).receipt = s.receipt := rfl
@[simp] theorem setPgH_composer (v : PulseGen 64) : (s.setPgH v).composer = s.composer := rfl
@[simp] theorem setPgH_mech (v : PulseGen 64) : (s.setPgH v).mech = s.mech := rfl
@[simp] theorem setPgH_rail (v : PulseGen 64) : (s.setPgH v).rail = s.rail := rfl
@[simp] theorem setPgH_pgH (v : PulseGen 64) : (s.setPgH v).pgH = v := rfl
@[simp] theorem setPgH_pgD (v : PulseGen 64) : (s.setPgH v).pgD = s.pgD := rfl
@[simp] theorem setPgH_drawer (v : PulseGen 64) : (s.setPgH v).drawer = s.drawer := rfl
@[simp] theorem setPgH_lines (v : PulseGen 64) : (s.setPgH v).lines = s.lines := rfl

@[simp] theorem setPgD_pending (v : PulseGen 32) : (s.setPgD v).pending = s.pending := rfl
@[simp] theorem setPgD_clock (v : PulseGen 32) : (s.setPgD v).clock = s.clock := rfl
@[simp] theorem setPgD_latched (v : PulseGen 32) : (s.setPgD v).latched = s.latched := rfl
@[simp] theorem setPgD_link (v : PulseGen 32) : (s.setPgD v).link = s.link := rfl
@[simp] theorem setPgD_params (v : PulseGen 32) : (s.setPgD v).params = s.params := rfl
@[simp] theorem setPgD_store (v : PulseGen 32) : (s.setPgD v).store = s.store := rfl
@[simp] theorem setPgD_chanP (v : PulseGen 32) : (s.setPgD v).chanP = s.chanP := rfl
@[simp] theorem setPgD_chanB (v : PulseGen 32) : (s.setPgD v).chanB = s.chanB := rfl
@[simp] theorem setPgD_pricing (v : PulseGen 32) : (s.setPgD v).pricing = s.pricing := rfl
@[simp] theorem setPgD_items (v : PulseGen 32) : (s.setPgD v).items = s.items := rfl
@[simp] theorem setPgD_bag (v : PulseGen 32) : (s.setPgD v).bag = s.bag := rfl
@[simp] theorem setPgD_card (v : PulseGen 32) : (s.setPgD v).card = s.card := rfl
@[simp] theorem setPgD_receipt (v : PulseGen 32) : (s.setPgD v).receipt = s.receipt := rfl
@[simp] theorem setPgD_composer (v : PulseGen 32) : (s.setPgD v).composer = s.composer := rfl
@[simp] theorem setPgD_mech (v : PulseGen 32) : (s.setPgD v).mech = s.mech := rfl
@[simp] theorem setPgD_rail (v : PulseGen 32) : (s.setPgD v).rail = s.rail := rfl
@[simp] theorem setPgD_pgH (v : PulseGen 32) : (s.setPgD v).pgH = s.pgH := rfl
@[simp] theorem setPgD_pgD (v : PulseGen 32) : (s.setPgD v).pgD = v := rfl
@[simp] theorem setPgD_drawer (v : PulseGen 32) : (s.setPgD v).drawer = s.drawer := rfl
@[simp] theorem setPgD_lines (v : PulseGen 32) : (s.setPgD v).lines = s.lines := rfl

@[simp] theorem setDrawer_pending (v : Drawer) : (s.setDrawer v).pending = s.pending := rfl
@[simp] theorem setDrawer_clock (v : Drawer) : (s.setDrawer v).clock = s.clock := rfl
@[simp] theorem setDrawer_latched (v : Drawer) : (s.setDrawer v).latched = s.latched := rfl
@[simp] theorem setDrawer_link (v : Drawer) : (s.setDrawer v).link = s.link := rfl
@[simp] theorem setDrawer_params (v : Drawer) : (s.setDrawer v).params = s.params := rfl
@[simp] theorem setDrawer_store (v : Drawer) : (s.setDrawer v).store = s.store := rfl
@[simp] theorem setDrawer_chanP (v : Drawer) : (s.setDrawer v).chanP = s.chanP := rfl
@[simp] theorem setDrawer_chanB (v : Drawer) : (s.setDrawer v).chanB = s.chanB := rfl
@[simp] theorem setDrawer_pricing (v : Drawer) : (s.setDrawer v).pricing = s.pricing := rfl
@[simp] theorem setDrawer_items (v : Drawer) : (s.setDrawer v).items = s.items := rfl
@[simp] theorem setDrawer_bag (v : Drawer) : (s.setDrawer v).bag = s.bag := rfl
@[simp] theorem setDrawer_card (v : Drawer) : (s.setDrawer v).card = s.card := rfl
@[simp] theorem setDrawer_receipt (v : Drawer) : (s.setDrawer v).receipt = s.receipt := rfl
@[simp] theorem setDrawer_composer (v : Drawer) : (s.setDrawer v).composer = s.composer := rfl
@[simp] theorem setDrawer_mech (v : Drawer) : (s.setDrawer v).mech = s.mech := rfl
@[simp] theorem setDrawer_rail (v : Drawer) : (s.setDrawer v).rail = s.rail := rfl
@[simp] theorem setDrawer_pgH (v : Drawer) : (s.setDrawer v).pgH = s.pgH := rfl
@[simp] theorem setDrawer_pgD (v : Drawer) : (s.setDrawer v).pgD = s.pgD := rfl
@[simp] theorem setDrawer_drawer (v : Drawer) : (s.setDrawer v).drawer = v := rfl
@[simp] theorem setDrawer_lines (v : Drawer) : (s.setDrawer v).lines = s.lines := rfl

@[simp] theorem setLines_pending (v : Lines) : (s.setLines v).pending = s.pending := rfl
@[simp] theorem setLines_clock (v : Lines) : (s.setLines v).clock = s.clock := rfl
@[simp] theorem setLines_latched (v : Lines) : (s.setLines v).latched = s.latched := rfl
@[simp] theorem setLines_link (v : Lines) : (s.setLines v).link = s.link := rfl
@[simp] theorem setLines_params (v : Lines) : (s.setLines v).params = s.params := rfl
@[simp] theorem setLines_store (v : Lines) : (s.setLines v).store = s.store := rfl
@[simp] theorem setLines_chanP (v : Lines) : (s.setLines v).chanP = s.chanP := rfl
@[simp] theorem setLines_chanB (v : Lines) : (s.setLines v).chanB = s.chanB := rfl
@[simp] theorem setLines_pricing (v : Lines) : (s.setLines v).pricing = s.pricing := rfl
@[simp] theorem setLines_items (v : Lines) : (s.setLines v).items = s.items := rfl
@[simp] theorem setLines_bag (v : Lines) : (s.setLines v).bag = s.bag := rfl
@[simp] theorem setLines_card (v : Lines) : (s.setLines v).card = s.card := rfl
@[simp] theorem setLines_receipt (v : Lines) : (s.setLines v).receipt = s.receipt := rfl
@[simp] theorem setLines_composer (v : Lines) : (s.setLines v).composer = s.composer := rfl
@[simp] theorem setLines_mech (v : Lines) : (s.setLines v).mech = s.mech := rfl
@[simp] theorem setLines_rail (v : Lines) : (s.setLines v).rail = s.rail := rfl
@[simp] theorem setLines_pgH (v : Lines) : (s.setLines v).pgH = s.pgH := rfl
@[simp] theorem setLines_pgD (v : Lines) : (s.setLines v).pgD = s.pgD := rfl
@[simp] theorem setLines_drawer (v : Lines) : (s.setLines v).drawer = s.drawer := rfl
@[simp] theorem setLines_lines (v : Lines) : (s.setLines v).lines = v := rfl

@[simp] theorem setLatched_pending (v : List Condition) : (s.setLatched v).pending = s.pending := rfl
@[simp] theorem setLatched_clock (v : List Condition) : (s.setLatched v).clock = s.clock := rfl
@[simp] theorem setLatched_latched (v : List Condition) : (s.setLatched v).latched = v := rfl
@[simp] theorem setLatched_link (v : List Condition) : (s.setLatched v).link = s.link := rfl
@[simp] theorem setLatched_params (v : List Condition) : (s.setLatched v).params = s.params := rfl
@[simp] theorem setLatched_store (v : List Condition) : (s.setLatched v).store = s.store := rfl
@[simp] theorem setLatched_chanP (v : List Condition) : (s.setLatched v).chanP = s.chanP := rfl
@[simp] theorem setLatched_chanB (v : List Condition) : (s.setLatched v).chanB = s.chanB := rfl
@[simp] theorem setLatched_pricing (v : List Condition) : (s.setLatched v).pricing = s.pricing := rfl
@[simp] theorem setLatched_items (v : List Condition) : (s.setLatched v).items = s.items := rfl
@[simp] theorem setLatched_bag (v : List Condition) : (s.setLatched v).bag = s.bag := rfl
@[simp] theorem setLatched_card (v : List Condition) : (s.setLatched v).card = s.card := rfl
@[simp] theorem setLatched_receipt (v : List Condition) : (s.setLatched v).receipt = s.receipt := rfl
@[simp] theorem setLatched_composer (v : List Condition) : (s.setLatched v).composer = s.composer := rfl
@[simp] theorem setLatched_mech (v : List Condition) : (s.setLatched v).mech = s.mech := rfl
@[simp] theorem setLatched_rail (v : List Condition) : (s.setLatched v).rail = s.rail := rfl
@[simp] theorem setLatched_pgH (v : List Condition) : (s.setLatched v).pgH = s.pgH := rfl
@[simp] theorem setLatched_pgD (v : List Condition) : (s.setLatched v).pgD = s.pgD := rfl
@[simp] theorem setLatched_drawer (v : List Condition) : (s.setLatched v).drawer = s.drawer := rfl
@[simp] theorem setLatched_lines (v : List Condition) : (s.setLatched v).lines = s.lines := rfl

@[simp] theorem setChan_pending (v : Channel) : (s.setChan c v).pending = s.pending := by cases c <;> rfl
@[simp] theorem setChan_clock (v : Channel) : (s.setChan c v).clock = s.clock := by cases c <;> rfl
@[simp] theorem setChan_latched (v : Channel) : (s.setChan c v).latched = s.latched := by cases c <;> rfl
@[simp] theorem setChan_link (v : Channel) : (s.setChan c v).link = s.link := by cases c <;> rfl
@[simp] theorem setChan_params (v : Channel) : (s.setChan c v).params = s.params := by cases c <;> rfl
@[simp] theorem setChan_store (v : Channel) : (s.setChan c v).store = s.store := by cases c <;> rfl
@[simp] theorem setChan_pricing (v : Channel) : (s.setChan c v).pricing = s.pricing := by cases c <;> rfl
@[simp] theorem setChan_items (v : Channel) : (s.setChan c v).items = s.items := by cases c <;> rfl
@[simp] theorem setChan_bag (v : Channel) : (s.setChan c v).bag = s.bag := by cases c <;> rfl
@[simp] theorem setChan_card (v : Channel) : (s.setChan c v).card = s.card := by cases c <;> rfl
@[simp] theorem setChan_receipt (v : Channel) : (s.setChan c v).receipt = s.receipt := by cases c <;> rfl
@[simp] theorem setChan_composer (v : Channel) : (s.setChan c v).composer = s.composer := by cases c <;> rfl
@[simp] theorem setChan_mech (v : Channel) : (s.setChan c v).mech = s.mech := by cases c <;> rfl
@[simp] theorem setChan_rail (v : Channel) : (s.setChan c v).rail = s.rail := by cases c <;> rfl
@[simp] theorem setChan_pgH (v : Channel) : (s.setChan c v).pgH = s.pgH := by cases c <;> rfl
@[simp] theorem setChan_pgD (v : Channel) : (s.setChan c v).pgD = s.pgD := by cases c <;> rfl
@[simp] theorem setChan_drawer (v : Channel) : (s.setChan c v).drawer = s.drawer := by cases c <;> rfl
@[simp] theorem setChan_lines (v : Channel) : (s.setChan c v).lines = s.lines := by cases c <;> rfl
@[simp] theorem setChan_P_chanP (v : Channel) : (s.setChan .P v).chanP = v := rfl
@[simp] theorem setChan_P_chanB (v : Channel) : (s.setChan .P v).chanB = s.chanB := rfl
@[simp] theorem setChan_B_chanP (v : Channel) : (s.setChan .B v).chanP = s.chanP := rfl
@[simp] theorem setChan_B_chanB (v : Channel) : (s.setChan .B v).chanB = v := rfl
@[simp] theorem chan_P : s.chan .P = s.chanP := rfl
@[simp] theorem chan_B : s.chan .B = s.chanB := rfl

/-- The record of a channel just replaced. -/
@[simp] theorem chan_setChan_same (v : Channel) : (s.setChan c v).chan c = v := by cases c <;> rfl

/-- The two channel records are separate (R2). -/
theorem chan_setChan_other (d : Chan) (v : Channel) (h : d ≠ c) : (s.setChan c v).chan d = s.chan d := by
  cases c <;> cases d <;> first | rfl | exact absurd rfl h

@[simp] theorem setLink_now (v : Link) : (s.setLink v).now = s.now := rfl
@[simp] theorem setLink_chan (v : Link) : (s.setLink v).chan c = s.chan c := by cases c <;> rfl
@[simp] theorem setParams_now (v : Params) : (s.setParams v).now = s.now := rfl
@[simp] theorem setParams_chan (v : Params) : (s.setParams v).chan c = s.chan c := by cases c <;> rfl
@[simp] theorem setStore_now (v : Store) : (s.setStore v).now = s.now := rfl
@[simp] theorem setStore_chan (v : Store) : (s.setStore v).chan c = s.chan c := by cases c <;> rfl
@[simp] theorem setPricing_now (v : Pricing) : (s.setPricing v).now = s.now := rfl
@[simp] theorem setPricing_chan (v : Pricing) : (s.setPricing v).chan c = s.chan c := by cases c <;> rfl
@[simp] theorem setItems_now (v : Items) : (s.setItems v).now = s.now := rfl
@[simp] theorem setItems_chan (v : Items) : (s.setItems v).chan c = s.chan c := by cases c <;> rfl
@[simp] theorem setBag_now (v : Bag) : (s.setBag v).now = s.now := rfl
@[simp] theorem setBag_chan (v : Bag) : (s.setBag v).chan c = s.chan c := by cases c <;> rfl
@[simp] theorem setCard_now (v : Card) : (s.setCard v).now = s.now := rfl
@[simp] theorem setCard_chan (v : Card) : (s.setCard v).chan c = s.chan c := by cases c <;> rfl
@[simp] theorem setReceipt_now (v : Receipt) : (s.setReceipt v).now = s.now := rfl
@[simp] theorem setReceipt_chan (v : Receipt) : (s.setReceipt v).chan c = s.chan c := by cases c <;> rfl
@[simp] theorem setComposer_now (v : Composer) : (s.setComposer v).now = s.now := rfl
@[simp] theorem setComposer_chan (v : Composer) : (s.setComposer v).chan c = s.chan c := by cases c <;> rfl
@[simp] theorem setMech_now (v : Mech) : (s.setMech v).now = s.now := rfl
@[simp] theorem setMech_chan (v : Mech) : (s.setMech v).chan c = s.chan c := by cases c <;> rfl
@[simp] theorem setRail_now (v : Rail) : (s.setRail v).now = s.now := rfl
@[simp] theorem setRail_chan (v : Rail) : (s.setRail v).chan c = s.chan c := by cases c <;> rfl
@[simp] theorem setPgH_now (v : PulseGen 64) : (s.setPgH v).now = s.now := rfl
@[simp] theorem setPgH_chan (v : PulseGen 64) : (s.setPgH v).chan c = s.chan c := by cases c <;> rfl
@[simp] theorem setPgD_now (v : PulseGen 32) : (s.setPgD v).now = s.now := rfl
@[simp] theorem setPgD_chan (v : PulseGen 32) : (s.setPgD v).chan c = s.chan c := by cases c <;> rfl
@[simp] theorem setDrawer_now (v : Drawer) : (s.setDrawer v).now = s.now := rfl
@[simp] theorem setDrawer_chan (v : Drawer) : (s.setDrawer v).chan c = s.chan c := by cases c <;> rfl
@[simp] theorem setLines_now (v : Lines) : (s.setLines v).now = s.now := rfl
@[simp] theorem setLines_chan (v : Lines) : (s.setLines v).chan c = s.chan c := by cases c <;> rfl
@[simp] theorem setLatched_now (v : List Condition) : (s.setLatched v).now = s.now := rfl
@[simp] theorem setLatched_chan (v : List Condition) : (s.setLatched v).chan c = s.chan c := by cases c <;> rfl
@[simp] theorem setChan_now (v : Channel) : (s.setChan c v).now = s.now := by cases c <;> rfl

end Sys2Proof.Machine
end

