-- ==== Sys2Proof/Laws/Frames.lean ====
section
/-! SUPPORT. What each shared operation leaves alone: one lemma per operation, each naming the parts of the state it may touch. -/

namespace Sys2Proof.Machine

variable {s t u : State} {l m : List Part}

theorem mem_allParts (p : Part) : p ∈ allParts := by cases p <;> decide

/-- A frame says that every part it does not name is the same. -/
theorem sameOutside_iff : sameOutside l s t = true ↔ ∀ p, p ∉ l → samePart p s t = true := by
  unfold sameOutside
  simp only [List.all_eq_true, Bool.or_eq_true, List.contains_iff_mem]
  exact ⟨fun h p hp => (h p (mem_allParts p)).resolve_left hp, fun h p _ => Classical.or_iff_not_imp_left.2 (h p)⟩

theorem samePart_refl (p : Part) (s : State) : samePart p s s = true := by cases p <;> simp [samePart]

theorem samePart_trans {p : Part} (h : samePart p s t = true) (k : samePart p t u = true) : samePart p s u = true := by
  cases p <;> simp_all [samePart]

@[simp] theorem sameOutside_refl (l : List Part) (s : State) : sameOutside l s s = true :=
  sameOutside_iff.2 fun p _ => samePart_refl p s

theorem sameOutside_trans (h : sameOutside l s t = true) (k : sameOutside l t u = true) : sameOutside l s u = true :=
  sameOutside_iff.2 fun p hp => samePart_trans (sameOutside_iff.1 h p hp) (sameOutside_iff.1 k p hp)

/-- A frame may be read as one that allows more parts to be touched. -/
theorem sameOutside_mono (h : sameOutside l s t = true) (k : ∀ p ∈ l, p ∈ m) : sameOutside m s t = true :=
  sameOutside_iff.2 fun p hp => sameOutside_iff.1 h p fun hl => hp (k p hl)

theorem sameOutside_ite {p : Prop} [Decidable p] (h : sameOutside l s t = true) (k : sameOutside l s u = true) :
    sameOutside l s (if p then t else u) = true := by split <;> assumption

theorem sameOutside_repeat (f : State → State) (h : ∀ x, sameOutside l x (f x) = true) (n : Nat) (s : State) :
    sameOutside l s (Nat.repeat f n s) = true := by
  induction n with
  | zero => exact sameOutside_refl l s
  | succ n ih => exact sameOutside_trans ih (h _)

theorem sameOutside_foldl {α : Type} (f : State → α → State) (h : ∀ x a, sameOutside l x (f x a) = true) (xs : List α)
    (s : State) : sameOutside l s (xs.foldl f s) = true := by
  induction xs generalizing s with
  | nil => exact sameOutside_refl l s
  | cons a xs ih => exact sameOutside_trans (h s a) (ih _)

/-- One more operation after a framed one. -/
theorem sameOutside_step (f : State → State) (h : ∀ x, sameOutside m x (f x) = true) (k : ∀ p ∈ m, p ∈ l)
    (g : sameOutside l s t = true) : sameOutside l s (f t) = true :=
  sameOutside_trans g (sameOutside_mono (h t) k)

end Sys2Proof.Machine
end

