-- ==== Sys2Proof/Laws/Operations.lean ====
section
/-! SUPPORT. The frame of each shared operation, and what the operations of the Alert queue and the Reply queue do. -/

namespace Sys2Proof.Machine

variable {s t : State}

/-! ### Block updates -/

@[simp] theorem setLink_frame (s : State) (v : Link) : sameOutside [.link] s (s.setLink v) = true := by
  simp [sameOutside_iff]; intro p; cases p <;> simp [samePart]
@[simp] theorem setLatched_frame (s : State) (v : List Condition) : sameOutside [.latched] s (s.setLatched v) = true := by
  simp [sameOutside_iff]; intro p; cases p <;> simp [samePart]
@[simp] theorem setStore_frame (s : State) (v : Store) : sameOutside [.store] s (s.setStore v) = true := by
  simp [sameOutside_iff]; intro p; cases p <;> simp [samePart]
@[simp] theorem setPricing_frame (s : State) (v : Pricing) : sameOutside [.pricing] s (s.setPricing v) = true := by
  simp [sameOutside_iff]; intro p; cases p <;> simp [samePart]
@[simp] theorem setItems_frame (s : State) (v : Items) : sameOutside [.items] s (s.setItems v) = true := by
  simp [sameOutside_iff]; intro p; cases p <;> simp [samePart]
@[simp] theorem setBag_frame (s : State) (v : Bag) : sameOutside [.bag] s (s.setBag v) = true := by
  simp [sameOutside_iff]; intro p; cases p <;> simp [samePart]
@[simp] theorem setCard_frame (s : State) (v : Card) : sameOutside [.card] s (s.setCard v) = true := by
  simp [sameOutside_iff]; intro p; cases p <;> simp [samePart]
@[simp] theorem setReceipt_frame (s : State) (v : Receipt) : sameOutside [.receipt] s (s.setReceipt v) = true := by
  simp [sameOutside_iff]; intro p; cases p <;> simp [samePart]
@[simp] theorem setComposer_frame (s : State) (v : Composer) : sameOutside [.composer] s (s.setComposer v) = true := by
  simp [sameOutside_iff]; intro p; cases p <;> simp [samePart]
@[simp] theorem setMech_frame (s : State) (v : Mech) : sameOutside [.mech] s (s.setMech v) = true := by
  simp [sameOutside_iff]; intro p; cases p <;> simp [samePart]
@[simp] theorem setRail_frame (s : State) (v : Rail) : sameOutside [.rail] s (s.setRail v) = true := by
  simp [sameOutside_iff]; intro p; cases p <;> simp [samePart]
@[simp] theorem setPgH_frame (s : State) (v : PulseGen 64) : sameOutside [.pgH] s (s.setPgH v) = true := by
  simp [sameOutside_iff]; intro p; cases p <;> simp [samePart]
@[simp] theorem setPgD_frame (s : State) (v : PulseGen 32) : sameOutside [.pgD] s (s.setPgD v) = true := by
  simp [sameOutside_iff]; intro p; cases p <;> simp [samePart]
@[simp] theorem setDrawer_frame (s : State) (v : Drawer) : sameOutside [.drawer] s (s.setDrawer v) = true := by
  simp [sameOutside_iff]; intro p; cases p <;> simp [samePart]
@[simp] theorem setLines_frame (s : State) (v : Lines) : sameOutside [.lines] s (s.setLines v) = true := by
  simp [sameOutside_iff]; intro p; cases p <;> simp [samePart]
theorem setChan_frame (s : State) (c : Chan) (v : Channel) : sameOutside [.chanP, .chanB] s (s.setChan c v) = true := by
  simp [sameOutside_iff]; intro p; cases c <;> cases p <;> simp [samePart]

/-! ### Ops -/

@[simp] theorem latch_frame (c : Condition) (s : State) : sameOutside [.latched] s (latch c s) = true := by simp [latch]

theorem emit_frame (e : Event) (s : State) : sameOutside [.link, .latched] s (emit e s) = true := by
  unfold emit
  exact sameOutside_ite (sameOutside_mono (setLink_frame s _) (by simp)) (sameOutside_mono (latch_frame _ s) (by simp))

/-- An event joins the Alert queue, or with 24 held it is discarded (R203). -/
theorem emit_alerts (e : Event) (s : State) :
    (emit e s).link.alerts = if s.link.alerts.length < 24 then s.link.alerts ++ [⟨s.now, e⟩] else s.link.alerts := by
  unfold emit; split <;> simp [latch]

/-- An event touches neither the Reply queue nor the count of outstanding requests. -/
@[simp] theorem emit_replies (e : Event) (s : State) : (emit e s).link.replies = s.link.replies := by
  unfold emit; split <;> simp [latch]

@[simp] theorem emit_outstanding (e : Event) (s : State) : (emit e s).link.outstanding = s.link.outstanding := by
  unfold emit; split <;> simp [latch]

@[simp] theorem emit_now (e : Event) (s : State) : (emit e s).now = s.now := by
  unfold emit; split <;> simp [latch]

@[simp] theorem frameTaken_frame (s : State) : sameOutside [.link] s (frameTaken s) = true := by simp [frameTaken]
@[simp] theorem placeReply_frame (r : Reply) (s : State) : sameOutside [.link] s (placeReply r s) = true := by simp [placeReply]
@[simp] theorem countRequest_frame (s : State) : sameOutside [.link] s (countRequest s) = true := by simp [countRequest]

@[simp] theorem admitted_frame (s : State) : sameOutside [.link] s (admitted s) = true :=
  sameOutside_trans (frameTaken_frame s) (countRequest_frame _)

/-- What a request does, by its credit and by its answer (R200, R202). -/
theorem request_cases (h : Header) (code : Byte) (judge : State → Answer) (s : State) :
    (16 ≤ s.link.outstanding ∧ request h code judge s = latch .intakeOverrun (frameTaken s)) ∨
    (s.link.outstanding < 16 ∧ ∃ status body t, judge (admitted s) = .reply status body t ∧
      request h code judge s = placeReply ⟨code, h.tag, status, body⟩ t) ∨
    (s.link.outstanding < 16 ∧ ∃ body t, judge (admitted s) = .hold body t ∧
      request h code judge s = t.setStore { t.store with held := some ⟨code, h.tag, body⟩ }) := by
  unfold request
  split
  · next hlt =>
    cases hj : judge (admitted s) with
    | reply status body t => exact .inr (.inl ⟨hlt, status, body, t, rfl, by simp [admitted] at hj; simp [hj, settleAnswer]⟩)
    | hold body t => exact .inr (.inr ⟨hlt, body, t, rfl, by simp [admitted] at hj; simp [hj, settleAnswer]⟩)
  · next hge => exact .inl ⟨by omega, rfl⟩

/-! ### The nonvolatile areas and downstream payloads (R28, R200) -/

@[simp] theorem readAudit_written (n : Nat) : readAudit (writtenAudit n) = some n := by simp [readAudit, writtenAudit]

@[simp] theorem readMetrology_written (a : MetrologyArea) : readMetrology (writtenMetrology a) = some a := by
  simp [readMetrology, writtenMetrology]

/-- A spoiled area reads bad (R36, R37). -/
@[simp] theorem readAudit_spoiled (a : AuditArea) : readAudit (spoiledAudit a) = none := by
  simp [readAudit, spoiledAudit]

@[simp] theorem readMetrology_spoiled (a : StoredMetrology) : readMetrology (spoiledMetrology a) = none := by
  simp [readMetrology, spoiledMetrology]

/-- An area that reads good is as a write of its contents leaves it (R28). -/
theorem written_of_readAudit {a : AuditArea} {n : Nat} (h : readAudit a = some n) : a = writtenAudit n := by
  obtain ⟨count, crc⟩ := a
  simp only [readAudit] at h
  split at h
  · next hc => cases h; simp [writtenAudit, hc]
  · cases h

theorem written_of_readMetrology {a : StoredMetrology} {m : MetrologyArea} (h : readMetrology a = some m) :
    a = writtenMetrology m := by
  obtain ⟨contents, crc⟩ := a
  simp only [readMetrology] at h
  split at h
  · next hc => cases h; simp [writtenMetrology, hc]
  · cases h

/-- The audit area kept after a write reads bad or as the counter (R35). -/
theorem readAudit_kept (n : Nat) (a : AuditArea) : readAudit (keptAudit n a) = none ∨ readAudit (keptAudit n a) = some n := by
  unfold keptAudit
  split
  · assumption
  · exact .inl (readAudit_spoiled a)

/-- What a request read from a payload is: one with fields that can occur, or the malformed one (R200). -/
theorem carrying_cases {α : Type} (channel tag code : Byte) (payload : List Byte) (blank : α) (make : Header → α → Instr) :
    (∃ x, (make ⟨tag, true⟩ x).wf = true ∧ carrying channel tag code payload blank make = make ⟨tag, true⟩ x) ∨
    carrying channel tag code payload blank make = make ⟨tag, false⟩ blank := by
  unfold carrying
  split
  · next x _ =>
    split
    · next hx => exact .inl ⟨x, hx, rfl⟩
    · exact .inr rfl
  · exact .inr rfl

/-- What a print record read from a payload is: one with fields that can occur, or the malformed one (R136). -/
theorem recordFields_cases {α : Type} (code : Byte) (payload : List Byte) (blank : Instr) (make : α → Instr) :
    (∃ x, (make x).wf = true ∧ recordFields code payload blank make = make x) ∨
    recordFields code payload blank make = blank := by
  unfold recordFields
  split
  · next x _ =>
    split
    · next hx => exact .inl ⟨x, hx, rfl⟩
    · exact .inr rfl
  · exact .inr rfl

/-! ### Claims and the Drive Rail Arbiter (R173, R174) -/

@[simp] theorem makeClaim_frame (who : Claimant) (n : Nat) (s : State) : sameOutside [.rail] s (makeClaim who n s) = true := by
  unfold makeClaim; exact sameOutside_ite (setRail_frame _ _) (sameOutside_refl _ _)

@[simp] theorem dropClaim_frame (who : Claimant) (s : State) : sameOutside [.rail] s (dropClaim who s) = true := by
  simp [dropClaim]

@[simp] theorem grantClaim_frame (who : Claimant) (s : State) : sameOutside [.rail] s (grantClaim who s) = true := by
  simp [grantClaim]

/-- A grant is made only to a claim that fits within Ceff beside the granted sum (R174). -/
theorem grantable_fits {who : Claimant} (h : grantable s = some who) :
    (s.rail.claim who).phase = .waiting ∧ s.rail.granted + (s.rail.claim who).units ≤ s.ceff := by
  unfold grantable at h
  split at h
  · cases h
  · next w hw =>
    split at h
    · next hf =>
      cases h
      have := List.find?_some hw
      exact ⟨by simpa using this, hf⟩
    · cases h

@[simp] theorem grantedUnits_none (n : Nat) (t : Stamp) : grantedUnits ⟨.none, n, t⟩ = 0 := rfl
@[simp] theorem grantedUnits_waiting (n : Nat) (t : Stamp) : grantedUnits ⟨.waiting, n, t⟩ = 0 := rfl

theorem grantedUnits_of_phase {c : Claim} (h : c.phase ≠ .granted) : grantedUnits c = 0 := by simp [grantedUnits, h]

theorem grantedUnits_grant (c : Claim) : grantedUnits { c with phase := .granted } = c.units := rfl

/-- A claim's release leaves the granted sum no larger (R173). -/
theorem granted_dropClaim (who : Claimant) (s : State) : (dropClaim who s).rail.granted ≤ s.rail.granted := by
  cases who <;> simp [dropClaim, Rail.granted, Rail.setClaim]

/-- A claim that is made waits, and adds nothing to the granted sum (R173). -/
theorem granted_makeClaim (who : Claimant) (n : Nat) (s : State) : (makeClaim who n s).rail.granted = s.rail.granted := by
  unfold makeClaim
  split
  · next h =>
    have hz : grantedUnits (s.rail.claim who) = 0 := grantedUnits_of_phase (by simp [h])
    cases who <;> simp_all [Rail.granted, Rail.setClaim, Rail.claim]
  · rfl

/-- A grant adds the claim's units to the granted sum (R174). -/
theorem granted_grantClaim {who : Claimant} (h : (s.rail.claim who).phase = .waiting) :
    (grantClaim who s).rail.granted = s.rail.granted + (s.rail.claim who).units := by
  have hz : grantedUnits (s.rail.claim who) = 0 := grantedUnits_of_phase (by simp [h])
  cases who <;> simp_all [grantClaim, Rail.granted, Rail.setClaim, Rail.claim, grantedUnits_grant] <;> omega

/-! ### The print path -/

theorem reportStop_frame (x : StopSensor) (s : State) : sameOutside [.link, .latched] s (reportStop x s) = true :=
  sameOutside_trans (sameOutside_mono (latch_frame _ s) (by simp)) (emit_frame _ _)

theorem reportPending_frame (p : PendingStop) (s : State) : sameOutside [.link, .latched] s (reportPending p s) = true := by
  unfold reportPending
  exact sameOutside_ite (sameOutside_refl _ _) (reportStop_frame _ _)

theorem enterStopped_frame (s : State) : sameOutside [.mech, .link, .latched] s (enterStopped s) = true := by
  unfold enterStopped
  split
  · exact sameOutside_refl _ _
  · exact sameOutside_trans (sameOutside_mono (setMech_frame s _) (by simp))
      (sameOutside_foldl _ (fun x a => sameOutside_mono (reportPending_frame a x) (by simp)) _ _)

theorem claimGroup_frame (r : RowWork) (s : State) : sameOutside [.mech, .rail] s (claimGroup r s) = true :=
  sameOutside_trans (sameOutside_mono (setMech_frame s _) (by simp)) (sameOutside_mono (makeClaim_frame _ _ _) (by simp))

theorem beginRow_frame (d : List Nat) (s : State) : sameOutside [.mech, .rail] s (beginRow d s) = true := by
  unfold beginRow
  exact sameOutside_ite (sameOutside_mono (setMech_frame s _) (by simp)) (claimGroup_frame _ _)

theorem startWork_frame (s : State) : sameOutside [.mech, .rail, .link, .latched] s (startWork s) = true := by
  unfold startWork
  split
  · exact sameOutside_refl _ _
  · split
    · split
      · exact sameOutside_ite (sameOutside_mono (enterStopped_frame s) (by simp))
          (sameOutside_ite (sameOutside_mono (setMech_frame s _) (by simp))
            (sameOutside_mono (beginRow_frame _ s) (by simp)))
      · exact sameOutside_mono (makeClaim_frame _ _ s) (by simp)
      all_goals exact sameOutside_refl _ _
    · exact sameOutside_refl _ _

theorem takeHold_frame (s : State) : sameOutside [.mech, .rail] s (takeHold s) = true := by
  unfold takeHold
  split
  · exact sameOutside_trans (sameOutside_mono (setMech_frame s _) (by simp))
      (sameOutside_mono (makeClaim_frame _ _ _) (by simp))
  · exact sameOutside_mono (setMech_frame s _) (by simp)
  all_goals exact sameOutside_refl _ _

theorem releaseHold_frame (s : State) : sameOutside [.mech, .rail] s (releaseHold s) = true :=
  sameOutside_trans (sameOutside_mono (setMech_frame s _) (by simp)) (sameOutside_mono (dropClaim_frame _ _) (by simp))

theorem emptyHold_frame (s : State) : sameOutside [.mech, .rail] s (emptyHold s) = true := by
  unfold emptyHold
  split
  · exact sameOutside_mono (setMech_frame s _) (by simp)
  · exact releaseHold_frame s
  all_goals exact sameOutside_refl _ _

theorem chooseState_frame (s : State) : sameOutside [.mech] s (chooseState s) = true := by
  unfold chooseState; split <;> simp

theorem nextHead_frame (s : State) : sameOutside [.mech, .rail, .link, .latched] s (nextHead s) = true := by
  unfold nextHead
  split
  · refine sameOutside_trans (sameOutside_mono (emptyHold_frame s) (by simp)) ?_
    exact sameOutside_ite (sameOutside_mono (enterStopped_frame _) (by simp))
      (sameOutside_ite (sameOutside_refl _ _) (sameOutside_mono (setMech_frame _ _) (by simp)))
  · refine sameOutside_trans (sameOutside_mono (takeHold_frame s) (by simp)) ?_
    exact sameOutside_ite (sameOutside_mono (enterStopped_frame _) (by simp))
      (sameOutside_ite (sameOutside_refl _ _)
        (sameOutside_trans (sameOutside_mono (chooseState_frame _) (by simp)) (startWork_frame _)))

theorem composeOne_frame (s : State) : sameOutside [.composer] s (composeOne s) = true := by
  unfold composeOne
  split
  · exact sameOutside_refl _ _
  · exact sameOutside_ite (setComposer_frame _ _) (sameOutside_refl _ _)

theorem composeAll_frame (s : State) : sameOutside [.composer] s (composeAll s) = true :=
  sameOutside_repeat _ composeOne_frame _ _

theorem makePendingSwitch_frame (s : State) :
    sameOutside [.link, .latched, .items] s (makePendingSwitch s) = true := by
  unfold makePendingSwitch switchBanks
  exact sameOutside_ite
    (sameOutside_trans (sameOutside_mono (setItems_frame _ _) (by simp)) (sameOutside_mono (emit_frame _ _) (by simp)))
    (sameOutside_refl _ _)

theorem closeCompletion_frame (s : State) :
    sameOutside [.link, .latched, .pricing, .items, .card, .receipt] s (closeCompletion s) = true := by
  show sameOutside _ s (makePendingSwitch (State.setReceipt (emit _ (closeSlips _ (closeTickets _ (s.setReceipt _)))) _)) = true
  refine sameOutside_trans ?_ (sameOutside_mono (makePendingSwitch_frame _) (by simp))
  refine sameOutside_trans ?_ (sameOutside_mono (setReceipt_frame _ _) (by simp))
  refine sameOutside_trans ?_ (sameOutside_mono (emit_frame _ _) (by simp))
  refine sameOutside_trans ?_ (sameOutside_mono (setCard_frame _ _) (by simp))
  refine sameOutside_trans ?_ (sameOutside_mono (setPricing_frame _ _) (by simp))
  exact sameOutside_mono (setReceipt_frame s _) (by simp)

theorem passNotice_frame (n : Option Notice) (s : State) :
    sameOutside [.link, .latched, .pricing, .items, .card, .receipt] s (passNotice n s) = true := by
  unfold passNotice markerCut
  split
  · exact sameOutside_refl _ _
  · exact sameOutside_mono (setPricing_frame _ _) (by simp)
  · exact sameOutside_mono (setPricing_frame _ _) (by simp)
  · exact sameOutside_mono (setCard_frame _ _) (by simp)
  · split
    · exact sameOutside_ite (closeCompletion_frame s) (sameOutside_refl _ _)
    · split
      · exact sameOutside_ite (sameOutside_mono (setReceipt_frame _ _) (by simp)) (sameOutside_refl _ _)
      · exact sameOutside_refl _ _

/-- The parts that the end of an entry may touch. -/
def entryParts : List Part := [.link, .latched, .pricing, .items, .card, .receipt, .composer, .mech, .rail]

theorem leaveHead_frame (b : Bool) (s : State) : sameOutside entryParts s (leaveHead b s) = true := by
  unfold leaveHead
  refine sameOutside_trans ?_ (sameOutside_mono (nextHead_frame _) (by decide))
  refine sameOutside_trans ?_ (sameOutside_mono (composeAll_frame _) (by decide))
  refine sameOutside_trans ?_ (sameOutside_mono (passNotice_frame _ _) (by decide))
  exact sameOutside_trans (sameOutside_mono (setComposer_frame s _) (by decide))
    (sameOutside_mono (setMech_frame _ _) (by decide))

theorem stepPaper_frame (s : State) : sameOutside entryParts s (stepPaper s) = true := by
  unfold stepPaper
  extract_lets _ t
  refine sameOutside_trans (t := t) (sameOutside_mono (setMech_frame s _) (by decide)) ?_
  refine sameOutside_ite (leaveHead_frame _ _) (sameOutside_ite (sameOutside_mono (enterStopped_frame _) (by decide)) ?_)
  split
  · exact sameOutside_refl _ _
  · exact sameOutside_ite (sameOutside_mono (startWork_frame _) (by decide)) (leaveHead_frame _ _)

theorem setRowPhase_frame (p : RowPhase) (s : State) : sameOutside [.mech] s (setRowPhase p s) = true :=
  setMech_frame s _

theorem stepReached_frame (s : State) : sameOutside entryParts s (stepReached s) = true := by
  unfold stepReached
  split
  · split
    · refine sameOutside_trans (stepPaper_frame s) ?_
      exact sameOutside_ite (sameOutside_mono (setRowPhase_frame _ _) (by decide)) (sameOutside_refl _ _)
    · exact sameOutside_mono (setRowPhase_frame _ _) (by decide)
  · exact sameOutside_refl _ _

/-- The parts the print path may touch. -/
def printParts : List Part :=
  [.link, .latched, .pricing, .items, .card, .receipt, .composer, .mech, .rail, .pgH, .pgD, .drawer]

theorem actOnGrant_frame (who : Claimant) (s : State) :
    sameOutside [.mech, .rail, .link, .latched, .pgH, .pgD, .drawer] s (actOnGrant who s) = true := by
  unfold actOnGrant
  split
  · unfold fireDrawer
    exact sameOutside_trans (sameOutside_mono (setPgD_frame s _) (by decide)) (sameOutside_mono (setDrawer_frame _ _) (by decide))
  · exact sameOutside_mono (setMech_frame _ _) (by decide)
  · exact sameOutside_trans (sameOutside_mono (setMech_frame s _) (by decide)) (sameOutside_mono (startWork_frame _) (by decide))
  · unfold fireGroup
    split
    · exact sameOutside_refl _ _
    · exact sameOutside_trans (sameOutside_mono (setMech_frame s _) (by decide)) (sameOutside_mono (setPgH_frame _ _) (by decide))

theorem grantOne_frame (s : State) :
    sameOutside [.mech, .rail, .link, .latched, .pgH, .pgD, .drawer] s (grantOne s) = true := by
  unfold grantOne
  split
  · exact sameOutside_refl _ _
  · exact sameOutside_trans (sameOutside_mono (grantClaim_frame _ s) (by decide)) (actOnGrant_frame _ _)

theorem reexamine_frame (s : State) :
    sameOutside [.mech, .rail, .link, .latched, .pgH, .pgD, .drawer] s (reexamine s) = true :=
  sameOutside_repeat _ grantOne_frame _ _

/-- `settle` keeps the queue, the clock, the parameters, the store, both channels, the verifier and the lines. -/
theorem settle_frame (s : State) : sameOutside printParts s (settle s) = true :=
  sameOutside_trans (sameOutside_mono (reexamine_frame s) (by decide))
    (sameOutside_trans (sameOutside_mono (stepReached_frame _) (by decide)) (sameOutside_mono (reexamine_frame _) (by decide)))

/-! ### The scale channels and the Bagging Verifier -/

theorem recompute_frame (c : Chan) (s : State) : sameOutside [.chanP, .chanB] s (recompute c s) = true := by
  unfold recompute
  split
  · exact sameOutside_refl _ _
  · exact setChan_frame _ _ _

theorem considerReport_frame (c : Chan) (s : State) : sameOutside [.chanP, .chanB] s (considerReport c s) = true := by
  unfold considerReport placeReport
  split
  · split
    · exact setChan_frame _ _ _
    · exact sameOutside_ite (setChan_frame _ _ _) (sameOutside_refl _ _)
  · exact sameOutside_refl _ _

theorem retared_frame (c : Chan) (s : State) : sameOutside [.chanP, .chanB] s (retared c s) = true :=
  sameOutside_trans (recompute_frame c s) (considerReport_frame c _)

theorem emitBag_frame (k : BagKind) (s : State) : sameOutside [.link, .latched] s (emitBag k s) = true := emit_frame _ _

theorem finishHold_frame (before : State) (cause : ClearCause) (s : State) :
    sameOutside [.bag, .link, .latched] s (finishHold before cause s) = true := by
  unfold finishHold
  split
  · exact sameOutside_trans (sameOutside_mono (setBag_frame s _) (by decide)) (sameOutside_mono (emitBag_frame _ _) (by decide))
  · split
    · exact sameOutside_trans (sameOutside_mono (setBag_frame s _) (by decide)) (sameOutside_mono (emitBag_frame _ _) (by decide))
    · exact sameOutside_refl _ _

theorem addScaleFault_frame (s : State) : sameOutside [.bag, .link, .latched] s (addScaleFault s) = true := by
  unfold addScaleFault
  exact sameOutside_ite (sameOutside_refl _ _)
    (sameOutside_trans (sameOutside_mono (setBag_frame s _) (by decide)) (sameOutside_mono (emitBag_frame _ _) (by decide)))

theorem setItemTare_frame (t : Option Int) (s : State) : sameOutside [.chanP, .chanB] s (setItemTare t s) = true :=
  sameOutside_trans (setChan_frame s _ _) (recompute_frame _ _)

theorem endWeighing_frame (s : State) : sameOutside [.pricing, .chanP, .chanB] s (endWeighing s) = true :=
  sameOutside_trans (sameOutside_mono (setPricing_frame s _) (by decide)) (sameOutside_mono (setItemTare_frame _ _) (by decide))

theorem considerTare_frame (before s : State) : sameOutside [.chanP, .chanB] s (considerTare before s) = true := by
  unfold considerTare
  exact sameOutside_ite (sameOutside_refl _ _) (considerReport_frame _ _)

theorem noteOffer_frame (s : State) : sameOutside [.bag] s (noteOffer s) = true := setBag_frame s _

theorem offerState_frame (c : Chan) (s : State) : sameOutside [.bag, .link, .latched] s (offerState c s) = true := by
  cases c with
  | P => exact sameOutside_refl _ _
  | B =>
    refine sameOutside_ite (sameOutside_mono (noteOffer_frame s) (by decide)) ?_
    refine sameOutside_trans (sameOutside_mono (noteOffer_frame s) (by decide)) ?_
    unfold scaleLost
    split
    · exact sameOutside_refl _ _
    · exact sameOutside_trans (addScaleFault_frame _) (finishHold_frame _ _ _)

theorem tareAtCancel_frame (r : CancelReason) (s : State) : sameOutside [.chanP, .chanB] s (tareAtCancel r s) = true := by
  cases r
  · exact setChan_frame s _ _
  · exact sameOutside_refl _ _

theorem cancelWeighing_frame (r : CancelReason) (s : State) :
    sameOutside [.pricing, .chanP, .chanB, .link, .latched] s (cancelWeighing r s) = true := by
  unfold cancelWeighing
  split
  · exact sameOutside_refl _ _
  · exact sameOutside_trans (sameOutside_mono (emit_frame _ s) (by decide))
      (sameOutside_trans (sameOutside_mono (tareAtCancel_frame r _) (by decide))
        (sameOutside_trans (sameOutside_mono (endWeighing_frame _) (by decide))
          (sameOutside_mono (considerTare_frame s _) (by decide))))

end Sys2Proof.Machine
end

