-- ==== Sys2Proof/Tests/Slice0.lean ====
section
/-! SUPPORT. Tests: ill-formed commands, the manual's worked examples, and for every statement with hypotheses a state that meets
them, clause by clause at a boundary. -/

namespace Sys2Proof.Machine.Slice0

open Sys2Proof

-- One theorem at a time: the kernel evaluations, run side by side, would each hold a thread and its stack.
set_option Elab.async false

def h : Header := ⟨7, true⟩

/-! ### Ill-formed commands are refused by name -/

theorem test_wf_unknown_code_listed : Instr.wf (.unknownCodeRequest 1 0 0x0A) = false := by decide
theorem test_wf_unknown_code_channel_4 : Instr.wf (.unknownCodeRequest 4 0 0x77) = false := by decide
theorem test_wf_known_name : Instr.wf (.setParameter h (.unknown [0x50, 0x5F, 0x45, 0x31]) 0) = false := by decide
theorem test_wf_wide_value : Instr.wf (.setParameter h .pE1 2147483648) = false := by decide
theorem test_wf_get_long_name : Instr.wf (.getParameter h (.unknown (List.replicate 257 0x41))) = false := by
  decide +kernel
theorem test_wf_long_payload :
    Instr.wf (.stageEntries h (List.replicate 22 ⟨1, 1, .perKg, false, false, none, none, none, []⟩)) = false := by
  decide +kernel
theorem test_wf_stage_delete : Instr.wf (.stageDelete h [4294967296]) = false := by decide
theorem test_wf_stage_seal : Instr.wf (.stageSeal h 4294967296 0) = false := by decide
theorem test_wf_table_query : Instr.wf (.tableQuery h 4294967296) = false := by decide
theorem test_wf_cal_span : Instr.wf (.calSpan h (some .P) 2147483648) = false := by decide
theorem test_wf_read_back : Instr.wf (.storeWriteComplete (writtenAreas 65536 {})) = false := by decide +kernel
theorem test_wf_tare_preset : Instr.wf (.tarePreset h (some .P) (-2147483649)) = false := by decide
theorem test_wf_weigh_item : Instr.wf (.weighItem h 4294967296) = false := by decide
theorem test_wf_inline_price : Instr.wf (.weighItemInline h 2147483648 none []) = false := by decide
theorem test_wf_ticket_numbers : (Instr.wf (.ticketVoid h 4294967296) || Instr.wf (.ticketQuery h 4294967296) ||
    Instr.wf (.ticketExpired 4294967296)) = false := by decide
theorem test_wf_report_mode : Instr.wf (.reportMode h none (some (.periodic 4294967296))) = false := by decide
theorem test_wf_count_24_bits : Instr.wf (.sampleArrival .P 8388608) = false := by decide
theorem test_wf_expect : Instr.wf (.expect h (some 4294967296) none none) = false := by decide
theorem test_wf_bag_ids : (Instr.wf (.expectNone h 4294967296) || Instr.wf (.expectCancel h 4294967296) ||
    Instr.wf (.placeTimeout 4294967296)) = false := by decide
theorem test_wf_slip_ids : (Instr.wf (.slipDiscard h 4294967296) || Instr.wf (.slipExpired 4294967296)) = false := by
  decide
theorem test_wf_short_length_byte : Instr.wf (.framingError (.longLength 120)) = false := by decide
theorem test_wf_open_receipt : Instr.wf (.openReceipt h 4294967296) = false := by decide
theorem test_wf_tender : Instr.wf (.tender h none 2147483648 none) = false := by decide
theorem test_wf_close : Instr.wf (.closeReceipt h 2147483648 none) = false := by decide
theorem test_wf_text : Instr.wf (.textLine (List.replicate 257 0x41) false false false) = false := by decide +kernel
theorem test_wf_print_references : (Instr.wf (.weighedLine (some 4294967296)) || Instr.wf (.voidLine (some 4294967296)) ||
    Instr.wf (.cardLine (some 4294967296)) || Instr.wf (.feed 4294967296)) = false := by decide
theorem test_wf_samples : (Instr.wf (.headTemperatureSample 2147483648) || Instr.wf (.railVoltageSample 4294967296)) = false := by
  decide
theorem test_wf_print_code : Instr.wf (.unknownPrintCode 0x21) = false := by decide

/-! ### The manual's worked examples -/

/-- R17, section 1.13: every row of the interval table. -/
theorem test_interval_boundary :
    [5999100, 6000000, 6001200, 6002500, -3000, -2999].map
      (fun n => (intervalOf {} .P n, roundAway (divisionOf {} .P n) n)) =
    [(1, 6000000), (1, 6000000), (2, 6000000), (2, 6005000), (1, -4000), (1, -2000)] := by decide

/-- Section 1.12: g of the filtered value, and both rounded nets. -/
theorem test_filtered_to_net :
    (rawGross 120000 125829120 285000, roundAway 2000 (1237500 - 1200), roundAway 2000 (1236300 - 12000)) =
    (1237500, 1236000, 1224000) := by decide

/-- R14: a half rounds up. -/
theorem test_tare_rounds_half_up : roundHalfUp 2000 1237000 = 1238000 := by decide

/-- A weighing for the price examples. -/
def priced (u : Nat) (b : Basis) (q : Nat) : Weighing := ⟨0, u, b, [], none, false, none, none, false, 0, q⟩

/-- Section 3.4.1: every row of the price table. -/
theorem test_price_rounding :
    [priceOf (priced 349 .perKg 1) 1236000, priceOf (priced 349 .perKg 5) 1236000, priceOf (priced 349 .perKg 1) 500000,
     priceOf (priced 35 .per100g 1) 1236000, priceOf (priced 35 .per100g 2) 1236000,
     priceOf (priced 999999 .perKg 1) 15000000] = [431, 430, 175, 433, 432, 14999985] := by decide

/-- R66, NOTE: the CRC-32 of 123456789. -/
theorem test_crc32 : crc32 (ascii "123456789") = 0xCBF43926 := by decide +kernel

/-- R66: the CRC of zero bytes. -/
theorem test_crc32_empty : crc32 [] = 0 := by decide

/-- R211: the CRC-16 of 123456789 worked out by hand from the polynomial 1021h and the initial value FFFFh. -/
theorem test_crc16 : crc16 (ascii "123456789") = 0x29B1 := by decide +kernel

/-- Section 12.9.1: LOCK with tag 07h, and its CRC-16 worked out by hand. -/
def lockFrame : List Byte := [0x01, 0x07, 0x07, 0x00, 0x00, 0x6F, 0xE0]

theorem test_lock_frame : goodFrame lockFrame = true ∧ frameMessage lockFrame = .lock ⟨7, true⟩ ∧
    goodFrame [0x01, 0x07, 0x07, 0x00, 0x00, 0x6F, 0xE1] = false ∧
    goodFrame [0x01, 0x07, 0x07, 0x00, 0x01, 0x6F, 0xE0] = false := by decide +kernel

/-- Section 12.9.3: the payload of one entry of item 4011 at 2.19 per kg, auto-lock, with a bag weight of 100,000 mg and the
description AB. -/
theorem test_compact_entry :
    readEntries [0x01, 0x00, 0x00, 0x0F, 0xAB, 0x00, 0x00, 0x00, 0xDB, 0x01, 0x01, 0x02, 0x02, 0x00, 0x01, 0x86, 0xA0, 0x41, 0x42] =
      some [⟨4011, 219, .perKg, true, false, none, some 100000, none, [0x41, 0x42]⟩] := by decide +kernel

/-- R200, section 12.9.3: a bit set outside the defined bits of the presence byte, and a byte too many. -/
theorem test_entry_not_in_form :
    readEntries [0x01, 0, 0, 0x0F, 0xAB, 0, 0, 0, 0xDB, 0x01, 0x00, 0x08, 0x00] = none ∧
    readEntries [0x01, 0, 0, 0x0F, 0xAB, 0, 0, 0, 0xDB, 0x01, 0x00, 0x00, 0x00, 0x00] = none := by decide +kernel

/-- R111: the rows of 12, 13 and 16 digits. -/
theorem test_masking :
    [masked (ascii "4000123456789017"), masked (ascii "4222222222222"), masked (ascii "123456789015")] =
    [ascii "400012******9017", ascii "422222***2222", ascii "********9015"] := by decide

/-- R143: money and weight as text. -/
theorem test_amounts : [moneyText 271, moneyText 5, moneyText 999999, kgText 1236000, kgText 40000] =
    [ascii "2.71", ascii "0.05", ascii "9999.99", ascii "1.236", ascii "0.040"] := by decide

/-- The ticket of R144's second example. -/
def cherries : Ticket :=
  ⟨1, 3, ascii "CHERRIES", 35, .per100g, 1, 408000, 1, 2000, 12000, .item, 143, 1, 0, .locked, none, false, none⟩

/-- R144: the second line of CHERRIES. -/
theorem test_weighed_second_line :
    weighedSecond cherries = ascii "  0.408 kg  T 0.012 kg  @ 0.35/100g" := by decide

/-- R176: the defaults fit, and DRAWER_UNITS 50 needs a capacity of 120. -/
theorem test_cross_constraints :
    [crossFits 80 30 20 10 25, crossFits 80 50 20 10 25, crossFits 119 50 20 10 25, crossFits 120 50 20 10 25] =
    [true, false, false, true] := by decide

/-! ### Small states -/

def area : MetrologyArea := ⟨⟨some 0, some 20000000⟩, ⟨some 0, some 20000000⟩, {}⟩

/-- A stable reading of a net. -/
def weight (nd : Int) : Reading :=
  ⟨.ready, nd, nd, 0, .none, nd, 1, some nd, some nd, true, some 0, false, false, 0⟩

/-- A READY channel with full windows of zeros. -/
def readyChan (n : Nat) (nd : Int) : Channel :=
  { state := .ready, filter := List.replicate n 0, stability := List.replicate 16 0, counts := List.replicate 16 0
    stable := true, stableSince := some 0, zeroEstablished := true, reading := some (weight nd) }

/-- A calibrated lane with the seal OPEN and a net on channel P. -/
def lane (nd : Int) : State :=
  { State.reset with
    latched := [], link := { linkUp := none }
    store := { work := area, nv := writtenAreas 0 area, sealOpen := true, sealSettled := true }
    chanP := readyChan 16 nd, chanB := readyChan 32 0 }

def bananas : ItemEntry := ⟨1, 219, .perKg, false, false, none, some 60000000, some 0, ascii "BANANAS"⟩

def weighing : Weighing := ⟨1, 219, .perKg, [], none, false, none, none, false, 1, 1⟩

/-- A ticket in a state, of a receipt. -/
def ticketIn (state : TicketState) (receipt : Option Nat) : Ticket := { cherries with state := state, receipt := receipt }

def slipIn (state : SlipState) (receipt : Option Nat) : Slip :=
  ⟨1, .swipe, ascii "********9015", ascii "9015", none, 0, state, receipt, false⟩

/-- SELF mode, a receipt 5 open, the attendant condition false. -/
def selfLane (nd : Int) : State :=
  (lane nd).setReceipt { mode := .selfService, state := .opened, number := some 5, openedTime := some 0 }

/-- The attendant condition true: C0 tests line L0, which is high. -/
def attended (s : State) : State :=
  (s.setParams { s.params with attendantCondition := some 0 }).setLines
    { inputs := (Vector.replicate 8 none).set 0 (some true)
      conditions := (Vector.replicate 4 {}).set 0 ⟨1, 1, .allMatch⟩ }

/-- A lane whose clock stands at a number of milliseconds. -/
def at_ (ms : Nat) (s : State) : State := { s with clock := BitVec.ofNat 64 (ms * 1000) }

/-- A drawer state with the sensor level high, opened since 0. -/
def sensedDrawer (state : DrawerState) : State :=
  (lane 0).setDrawer { state := state, level := some true, openStamp := some 0 }

def feedEntry (n : Nat) : LineEntry := ⟨.feed n, none, none⟩

/-- A dot row with as many black dots, from dot 0. -/
def dots (n : Nat) : DotRow := BitVec.ofNat 576 (2 ^ n - 1)

/-- One text row. -/
def textEntry1 (rows : List DotRow) (notice : Option Notice) : LineEntry := ⟨.text rows, none, notice⟩

def cutEntry (notice : Option Notice) : LineEntry := ⟨.cutMark .full, some 5, notice⟩

/-- The lane in ATTENDED mode. -/
abbrev attendedLane : State := lane 0

/-- The mechanism RUNNING on an entry with its row in a phase. -/
def printing (e : LineEntry) (r : Option RowWork) : State :=
  (((lane 0).setComposer { lines := [e] }).setMech
    { state := .running, hold := .held, stepperUnits := some 10, row := r }).setRail
    { stepper := ⟨.granted, 10, 0⟩ }

/-- The mechanism CUTTING under a granted claim. -/
def cutting (e : LineEntry) : State :=
  (((lane 0).setComposer { lines := [e] }).setMech
    { state := .cutting, hold := .held, stepperUnits := some 10, jamDue := some 800, homeSettled := true }).setRail
    { stepper := ⟨.granted, 10, 0⟩, cutter := ⟨.granted, 20, 0⟩ }

/-- What a next state has, read out of an outcome. -/
def after? {α : Type} (r : Result) (f : State → α) : Option α :=
  match r with
  | .next t => some (f t)
  | _ => none

/-! ### Witnesses: the hypotheses of each statement, met clause by clause -/

theorem witness_IdleStepPassesTime : (lane 0).pending = [] ∧ ((lane 0).chan .P).silenceStart = some 0 ∧
    (({ lane 0 with chanP := { readyChan 16 0 with mode := .periodic 1, due := some 50 } }).chan .P).mode = .periodic 1 ∧
    (({ lane 0 with chanP := { readyChan 16 0 with mode := .periodic 1, due := some 50 } }).chan .P).due = some 50 := by
  decide

theorem witness_UncreditedAndMalformedRequestsChangeNothing :
    (requestOf (.lock h) = some (h, 0x07) ∧ 16 ≤ ((lane 0).setLink { outstanding := 16 }).link.outstanding) ∧
    (requestOf (.lock ⟨7, false⟩) = some (⟨7, false⟩, 0x07) ∧
      ((lane 0).setLink { outstanding := 15 }).link.outstanding < 16) := by decide

theorem witness_RefusedRequestChangesNothing :
    requestOf (.lock h) = some (h, 0x07) ∧ (lane 0).link.outstanding < 16 ∧
    exec (.lock h) (lane 0) = .next (replied ⟨0x07, 7, .wrongState, .none⟩ (lane 0)) ∧
    (replied ⟨0x07, 7, .wrongState, .none⟩ (lane 0)).link.replies =
      (lane 0).link.replies ++ [⟨0x07, 7, .wrongState, .none⟩] ∧ Status.wrongState ≠ .ok :=
  ⟨rfl, by decide, rfl, rfl, by decide⟩

theorem witness_request_credit : h.wellFormed = true ∧ (lane 0).link.outstanding < 16 ∧
    ((lane 0).setLink { outstanding := 15 }).link.outstanding < 16 ∧ settableValue .railCapacity (lane 0) = some 80 := by
  decide

/-- A receiver in FRAME with bytes held. -/
def receiving (n : Nat) (escape : Bool) : State :=
  (lane 0).setLink { receiver := ⟨.frame, List.replicate n 1, escape⟩ }

theorem witness_ReceiverTakesCharactersAndFrames :
    (lane 0).link.receiver.phase = .hunt ∧
    ((receiving 0 false).link.receiver.phase = .frame ∧ (receiving 0 false).link.receiver.escape = false ∧
      (receiving 0 false).link.receiver.bytes = []) ∧
    (receiving 262 false).link.receiver.bytes.length < 263 ∧
    ((receiving 262 true).link.receiver.escape = true ∧ (receiving 262 true).link.receiver.bytes.length < 263) ∧
    (receiving 263 false).link.receiver.bytes.length = 263 ∧
    ((receiving 6 false).link.receiver.bytes ≠ [] ∧ (receiving 6 false).link.receiver.bytes.length < 7) ∧
    isRequestCode 1 0x0B = false ∧ (1 : Byte) ≠ 4 := by decide +kernel

/-- A receiver that holds the frame of a LOCK, over a weighing that can be locked. -/
def holdingLock : State :=
  let s := (lane 40000).setPricing { weighing := some weighing }
  s.setLink { s.link with receiver := ⟨.frame, lockFrame, false⟩ }

theorem witness_good_frames :
    (holdingLock.link.receiver.phase = .frame ∧ holdingLock.link.receiver.escape = false ∧
      goodFrame holdingLock.link.receiver.bytes = true) ∧
    ((receiving 7 false).link.receiver.bytes ≠ [] ∧ goodFrame (receiving 7 false).link.receiver.bytes = false) ∧
    (List.replicate 256 (0 : Byte)).length ≤ 256 ∧ (0xE1 : Byte) ≠ (crc16 (lockFrame.take 5)).extractLsb' 0 8 ∧
    isRequestCode 1 0x07 = true ∧ isRequestCode 4 0x21 = false := by decide +kernel

/-- R200: the flag that ends the frame locks the ticket. -/
theorem test_flag_runs_the_frame :
    after? (exec (.downstreamByte 0x7E true) holdingLock)
      (fun t => (t.pricing.tickets.map (·.price), t.link.replies.map (fun r => (r.code, r.tag, r.status)))) =
    some ([9], [(0x07, 0x07, .ok)]) := by decide +kernel

theorem witness_UpstreamFrameTakesItsSources :
    somethingWaits State.reset = true ∧
    ((lane 0).setLink { linkUp := none, run := 4, replies := [⟨1, 1, .ok, .none⟩] }).link.run = 4 ∧
    somethingWaits ((lane 0).setLink { linkUp := none, run := 4, replies := [⟨1, 1, .ok, .none⟩] }) = true ∧
    somethingWaits (lane 0) = false ∧ State.reset.link.linkUp.isSome = true := by decide

/-- A read card that waits for an Alert entry. -/
def forwarding (alerts : Nat) : State :=
  let s := (lane 0).setCard { port := .forwarding, attempts := 1, buffer := some ⟨0x01, ascii "4000123456789017=2712201", none⟩ }
  s.setLink { s.link with alerts := List.replicate alerts ⟨0, .lane (.sealOpened 0)⟩, replies := [⟨1, 1, .ok, .none⟩] }

theorem witness_forwarding_at_a_build :
    (somethingWaits (forwarding 0) = true ∧ (forwarding 0).card.port = .forwarding ∧
      ((forwarding 0).link.alerts.drop 0).length < 24 ∧ (parseCard 0x01 (ascii "4000123456789017=2712201")).isSome = true) ∧
    (24 ≤ ((forwarding 24).link.alerts.drop 0).length ∧ ((lane 0).setLink { alerts := [] }).card.port ≠ .forwarding) := by
  decide +kernel

/-- The nonvolatile areas of the lane with one of them bad. -/
def badAudit : NvAreas := ⟨spoiledAudit (lane 0).store.nv.audit, (lane 0).store.nv.metrology⟩
def badMetrology : NvAreas := ⟨(lane 0).store.nv.audit, spoiledMetrology (lane 0).store.nv.metrology⟩

theorem witness_LinkResetAndPowerOn :
    ((lane 0).store.writing = false ∧ readAudit (lane 0).store.nv.audit = some 0 ∧
      readMetrology (lane 0).store.nv.metrology = some area) ∧
    (readAudit badAudit.audit = none ∧ readMetrology badMetrology.metrology = none ∧
      ((lane 0).setStore { nv := badAudit }).store.writing = false) ∧
    ((lane 0).setStore { writing := true }).store.writing = true := by decide +kernel

/-- R35, R37: power-on with the audit area bad reads the counter as 65535, which takes no further change. -/
theorem test_power_on_bad_audit :
    after? (exec (.powerOnReset .readBack) ((lane 0).setStore { nv := badAudit })) (fun t => (t.store.audit, t.store.current)) =
    some (65535, false) := by decide +kernel

/-- The lane with its standby bank in a state and a sensor level. -/
def toReset (state : StandbyState) (drawer : DrawerState) : State :=
  ((attendedLane.setItems { standby := [], state := state }).setDrawer { state := drawer, level := some true }).setBag
    { reasons := { removed := true } }

theorem witness_LaneResetClearsTheLane :
    ((toReset .staging .opened).items.state = .staging ∧ (toReset .commitPending .opened).items.state = .commitPending ∧
      (toReset .sealed .closed).items.state = .sealed) ∧
    ((toReset .sealed .opened).sensorOpen = true ∧ (toReset .sealed .opened).drawer.state = .opened ∧
      (toReset .sealed .pulsing).drawer.state ≠ .opened ∧ (lane 0).sensorOpen = false) ∧
    ((lane 0).chanP.reading = some (weight 0) ∧ State.reset.chanP.reading = none ∧ ((lane 0).chan .P).mode ≠ .onChange) ∧
    ((toReset .sealed .closed).bag.reasons.any = true ∧ (lane 0).bag.reasons.any = false) := by decide

theorem witness_ZeroIsJudgedAndActs :
    (State.reset.chan .P).state ≠ .ready ∧ ((lane 0).chan .B).state = .ready ∧
    ((lane 0).chan .P).reading = some (weight 0) ∧ (weight 0).stable = true ∧ { weight 0 with stable := false }.stable = false ∧
    { readyChan 16 0 with operatorTare := 2000 }.tare ≠ 0 ∧ (readyChan 16 0).tare = 0 ∧
    (((weight 300000).g - (readyChan 16 0).zInit).natAbs : Int) * 50 ≤ maxOf (lane 0).met .P ∧
    maxOf (lane 0).met .P < (((weight 300001).g - (readyChan 16 0).zInit).natAbs : Int) * 50 := by decide

theorem witness_TareRequestsAreJudgedAndAct :
    some Chan.B ≠ some Chan.P ∧ State.reset.chanP.state ≠ .ready ∧
    ((lane 0).chanP.state = .ready ∧ (lane 0).chanP.itemTare = none ∧ (lane 0).chanP.reading = some (weight 0)) ∧
    { weight 0 with stable := false }.stable = false ∧ (weight 1999).gross < (lane 0).met.pE1 ∧
    (lane 0).met.pMax1 < (weight 6000001).gross ∧
    ((lane 0).met.pE1 ≤ (weight 2000).gross ∧ (weight 2000).gross ≤ (lane 0).met.pMax1) ∧
    (lane 0).met.pMax1 < (lane 0).met.pE1 * ((6001000 + (lane 0).met.pE1 / 2) / (lane 0).met.pE1) ∧
    (lane 0).met.pE1 * ((6000999 + (lane 0).met.pE1 / 2) / (lane 0).met.pE1) ≤ (lane 0).met.pMax1 := by decide

/-- Channel P in PERIODIC 200, due. -/
def periodic : State :=
  at_ 10000 { lane 0 with chanP := { readyChan 16 0 with mode := .periodic 200, due := some 10000 } }

theorem witness_ReportsFollowTheirMode :
    (1 ≤ 200 ∧ (200 : Nat) ≤ 200 ∧ (200 : Nat) < 201 ∧ (0 : Nat) < 1) ∧
    (periodic.chan .P).mode = .periodic 200 ∧ (periodic.chan .P).due = some 10000 ∧
    reached periodic.now 10000 = true := by decide

/-- Channel P in ON_CHANGE with its report as the baseline. -/
def onChange (baseline : Option WeightReport) : State :=
  { lane 0 with chanP := { readyChan 16 0 with mode := .onChange, baseline := baseline } }

/-- An arrival that changes nothing compared, one that changes Nd, one with the baseline absent, and the silence expiry. -/
theorem witness_OnChange :
    ((onChange none).chan .P).state ≠ .off ∧ ((onChange none).chan .P).mode = .onChange ∧
    after? (exec (.sampleArrival .P 0) (onChange (some (buildReport (lane 0) .P))))
      (fun t => (decide (AgreeOnChange (buildReport t .P) (buildReport (lane 0) .P)), t.chanP.slot)) = some (true, none) ∧
    after? (exec (.sampleArrival .P 100000) (onChange (some (buildReport (lane 0) .P))))
      (fun t => (decide (AgreeOnChange (buildReport t .P) (buildReport (lane 0) .P)), t.chanP.slot.isSome)) =
      some (false, true) ∧
    after? (exec (.sampleArrival .P 0) (onChange none)) (fun t => t.chanP.slot.isSome) = some true ∧
    100 ≤ age (at_ 100 (onChange none)).now 0 ∧ ((lane 0).chan .P).mode ≠ .onChange := by decide +kernel

theorem witness_SignalFaultBeginsAndEnds :
    ((lane 0).chan .P).state ≠ .off ∧
    ((lane 0).chan .P).silenceStart = some 0 ∧ 100 ≤ age (at_ 100 (lane 0)).now 0 ∧
    (8388606 : Int) ≠ 8388607 ∧ { readyChan 16 0 with state := .off }.state = .off ∧
    { readyChan 16 0 with state := .fault, signalFault := true, goodRun := 7 }.signalFault = true ∧
    { readyChan 16 0 with state := .uncalibrated, signalFault := true, goodRun := 6 }.goodRun < 7 := by decide

theorem witness_ReadyArrivalMakesTheReading :
    ((lane 0).chan .P).state = .ready ∧ ((lane 0).chan .P).signalFault = false ∧
    (pushWindow (filterLenOf (lane 0).met .P) ((lane 0).chan .P).filter 1).length = filterLenOf (lane 0).met .P ∧
    (calOf (lane 0).store.work .P).zCal = some 0 ∧ (calOf (lane 0).store.work .P).span = some 20000000 := by decide

/-- Channel P before an arrival of `raw` counts that keep its full windows at that value, its operating zero at `zOp`. -/
def steady (state : ChanState) (raw zOp : Int) (azt : Option Stamp) : State :=
  at_ 1000 { lane 0 with
    chanP := { readyChan 16 0 with
      state := state, filter := List.replicate 16 raw, stability := List.replicate 16 (rawGross 0 20000000 raw - zOp)
      zOp := zOp, zeroEstablished := state == .ready, aztStart := azt } }

/-- FILLING and ZEROING: a window short of one sample and one that this sample fills; the zero range of 1,500,000 mg at its limit and one
count above, and an arrival that is not stable. -/
theorem witness_initial_zero :
    ((pushWindow 16 (List.replicate 14 0) 0).length ≠ 16 ∧ (pushWindow 16 (List.replicate 15 0) 0).length = 16) ∧
    ((steady .filling 0 0 none).chan .P).zeroEstablished = false ∧
    after? (exec (.sampleArrival .P 1258290) (steady .filling 1258290 0 none))
      (fun t => (t.chanP.state, decide (t.chanP.zOp.natAbs * 10 ≤ 15000000), t.chanP.stable)) = some (.ready, true, true) ∧
    after? (exec (.sampleArrival .P 1258292) (steady .zeroing 1258292 0 none))
      (fun t => (t.chanP.state, t.chanP.zeroFailed, t.latched)) = some (.zeroing, true, [.zeroRange .P]) ∧
    after? (exec (.sampleArrival .P 100000) (steady .zeroing 0 0 none)) (fun t => (t.chanP.state, t.chanP.stable)) =
      some (.zeroing, false) := by decide +kernel

/-- R13: a dwell of 1 s that ends, one that has just begun, the edge of the window of 300,000 mg, a gross above e1 / 2, and AZT off. -/
theorem witness_zero_tracking :
    after? (exec (.sampleArrival .P 800) (steady .ready 800 0 (some 0))) (fun t => (t.chanP.zOp, t.chanP.aztStart)) =
      some (954, some 1000) ∧
    after? (exec (.sampleArrival .P 800) (steady .ready 800 0 (some 1))) (fun t => (t.chanP.zOp, t.chanP.aztStart)) =
      some (0, some 1) ∧
    after? (exec (.sampleArrival .P 800) (steady .ready 800 0 none)) (fun t => t.chanP.aztStart) = some (some 1000) ∧
    after? (exec (.sampleArrival .P 251800) (steady .ready 251800 300000 (some 0)))
      (fun t => (t.chanP.zOp, t.latched)) = some (300000, [.zeroLimit .P]) ∧
    after? (exec (.sampleArrival .P 840) (steady .ready 840 0 (some 0))) (fun t => t.chanP.aztStart) = some none ∧
    ((lane 0).setStore { work := { params := { aztEnable := false } } }).met.aztEnable = false := by decide +kernel

/-- Channel P before the arrival of `raw` counts that turns its stable flag true, in the lane `s` with an auto-lock weighing pending. -/
def turning (raw : Int) (clearRequired : Bool) (s : State) : State :=
  { s with
    chanP := { (steady .ready raw 0 none).chanP with stable := false }
    pricing := { weighing := some { weighing with autoLock := true }, clearRequired := clearRequired } }

/-- What the Pricing Unit and the verifier have after an arrival: the nets locked, the expected deltas, clear-required, a pending
weighing and an event told. -/
def offered (raw : Int) (s : State) : Option (List Int × List Int × List Bool) :=
  after? (exec (.sampleArrival .P raw) s) fun t =>
    (t.pricing.tickets.map (·.nd), t.bag.queue.map (·.delta), [t.pricing.clearRequired, t.pricing.weighing.isSome,
      decide (s.link.alerts.length < t.link.alerts.length)])

/-- R44, R46, R55, R56: a net of Min = 40,000 mg locks, in SELF mode with its expectation; one of 38,000 mg clears and locks nothing; Min
itself does not clear; in SELF mode with the receipt CLOSED and over an Alert queue that is full. -/
theorem witness_offers_to_pricing :
    [turning 33555 false (lane 0), turning 33555 false (selfLane 0), turning 33555 true (lane 0),
      turning 33555 false ((selfLane 0).setReceipt { mode := .selfService }),
      turning 33555 false ((lane 0).setLink { alerts := List.replicate 24 ⟨0, .drawer .forcedOpen⟩ })].map (offered 33555) =
      [some ([40000], [], [true, false, true]), some ([40000], [40000], [true, false, true]), some ([], [], [true, true, false]),
        some ([], [], [false, true, false]), some ([40000], [], [true, false, false])] ∧
    offered 31877 (turning 31877 true (lane 0)) = some ([], [], [false, true, false]) := by decide +kernel

theorem witness_RoundingAndPriceAreToNearest :
    (0 < (2000 : Int) ∧ (2000 : Int) % 2 = 0) ∧ 2 * ((roundAway 2000 (-3000) - -3000).natAbs : Int) = 2000 ∧
    2 * ((roundHalfUp 2000 1237000 - 1237000).natAbs : Int) = 2000 ∧
    2 * (((4 : Int) * filtered 4 [1, 1, 0, 0] - [1, 1, 0, 0].sum).natAbs : Int) = 4 ∧
    (0 < (priced 349 .perKg 1).step ∧
      2 * (((priceOf (priced 349 .perKg 1) 500000 * 1000000 : Nat) : Int) - ((500000 * 349 : Nat) : Int)).natAbs = 1000000) := by
  decide

theorem witness_MetrologyRequestsAreAdmittedInOrder :
    requestOf (.calZero h (some .P)) = some (h, 0x0D) ∧ isMetrologyRequest (.calZero h (some .P)) = true ∧
    ((lane 0).setStore { (lane 0).store with writing := true }).store.writing = true ∧
    (State.reset.store.writing = false ∧ State.reset.store.sealOpen = false) ∧
    ((lane 0).store.sealOpen = true ∧ 65535 ≤ ((lane 0).setStore { (lane 0).store with audit := 65535 }).store.audit) := by
  decide

theorem witness_MetrologyParameterIsAccepted :
    isMetrology .pE1 = true ∧ ((lane 0).setStore { (lane 0).store with audit := 65534 }).store.audit < 65535 ∧
    (metrologySet .pE1 2000 (lane 0).met = some (lane 0).met ∧ metrologyFits (lane 0).met = true ∧
      (lane 0).store.current = true) ∧
    (metrologySet .pE1 1000 (lane 0).met = some { (lane 0).met with pE1 := 1000 } ∧
      metrologyFits { (lane 0).met with pE1 := 1000 } = true ∧ { (lane 0).met with pE1 := 1000 } ≠ (lane 0).met) ∧
    ((selfLane 0).receipt.mode = .selfService ∧ (selfLane 0).chanB.state = .ready ∧
      metrologySet .filterLenB 64 (selfLane 0).met = some { (lane 0).met with filterLenB := 64 }) ∧
    (metrologySet .priceStep 5 (lane 0).met = some { (lane 0).met with priceStep := 5 } ∧
      ((lane 0).setPricing { weighing := some weighing }).pricing.weighing = some weighing) := by
  decide

/-- R39: a PRICE_STEP change that cancels a weighing over an operator tare leaves T at 0 with source NONE. -/
theorem test_price_step_and_the_tare :
    (let s := ((lane 0).setPricing { weighing := some weighing }).setChan .P { (lane 0).chanP with operatorTare := 2000 }
     after? (exec (.setParameter h .priceStep 5) s) (fun t => (t.chanP.tare, t.chanP.tareSource, t.pricing.weighing)) =
       some (0, .none, none)) := by decide +kernel

/-- R38, R57: a STAB_WINDOW change in SELF mode takes both channels and tells the verifier and the weighing. -/
theorem test_metrology_change_events :
    after? (exec (.setParameter h .stabWindow 8) ((selfLane 0).setPricing { weighing := some weighing }))
      (fun t => (t.chanP.state, t.chanB.state, t.bag.reasons.scaleFault, t.link.alerts.map (·.event) ==
        [.bag (.scaleFault .zeroing false) { scaleFault := true } none, .bag .holdEntered { scaleFault := true } none,
         .weighingCancelled 1 .metrology])) = some (.zeroing, .zeroing, true, true) := by decide +kernel

/-- Section 2.11: channel P after CAL_ZERO at 120,000 counts, with a 10 kg test weight on it. -/
def calibrating : State :=
  { lane 0 with
    store := { (lane 0).store with work := { area with calP := ⟨some 120000, none⟩ } }
    chanP := { readyChan 16 0 with counts := List.replicate 16 1453333 } }

theorem witness_CalibrationIsAccepted :
    (calibrating.chan .P).state = .ready ∧ (calibrating.chan .P).filter.length = filterLenOf calibrating.met .P ∧
    (calibrating.chan .P).counts.length = calibrating.met.stabWindow ∧ spread (calibrating.chan .P).counts ≤ 8 ∧
    spread [0, 8] ≤ 8 ∧ (calOf calibrating.store.work .P).zCal = some 120000 ∧
    (calibrating.chan .P).counts.getLastD 0 - 120000 = 1333333 ∧ (10000 : Int) ≤ 1333333 ∧
    (2 * 10000000 * 2 ^ 24 + 1333333 : Int) / (2 * 1333333) ≤ 4294967295 := by decide

/-- A channel with neither calibration value, ready for its first CAL_ZERO, and one with its Zcal alone. -/
def uncalibrated (cal : CalRecord) : State :=
  { calibrating with
    store := { calibrating.store with work := { area with calP := cal } }
    chanP := { calibrating.chanP with state := .uncalibrated, reading := none } }

theorem witness_first_calibration :
    ((uncalibrated {}).chan .P).state = .uncalibrated ∧
    ((uncalibrated {}).chan .P).filter.length = filterLenOf (uncalibrated {}).met .P ∧
    (calOf (uncalibrated {}).store.work .P).span = none ∧
    (calOf (uncalibrated ⟨none, some 1⟩).store.work .P).span.isSome = true ∧
    after? (exec (.calZero h (some .P)) (uncalibrated {})) (fun t => (t.chanP.state, calOf t.store.work .P)) =
      some (.uncalibrated, ⟨some 1453333, none⟩) ∧
    after? (exec (.calSpan h (some .P) 10000000) (uncalibrated ⟨some 120000, none⟩))
      (fun t => (t.chanP.state, calOf t.store.work .P)) = some (.zeroing, ⟨some 120000, some 125829151⟩) := by
  decide +kernel

/-- Section 2.11: the Span of the worked example. -/
theorem test_cal_span_worked_example :
    (match exec (.calSpan h (some .P) 10000000) calibrating with
     | .next t => (calOf t.store.work .P).span
     | _ => none) = some 125829151 := by decide

theorem witness_StoreWriteCompletesAndSealIsRead :
    ((lane 0).setStore { (lane 0).store with writing := true }).store.writing = true ∧
    ((lane 0).setLink { alerts := List.replicate 23 ⟨0, .lane (.sealOpened 0)⟩ }).link.alerts.length < 24 ∧
    (readAudit (writtenAreas 0 {}).audit = some 0 ∧ readAudit badAudit.audit = none ∧
      readAudit (writtenAreas 1 {}).audit ≠ some (lane 0).store.audit) ∧ (lane 0).store.held = none := by decide +kernel

/-- R35: a write that reads back good with a lower count leaves an audit area that reads bad. -/
theorem test_lower_audit_is_kept_bad :
    after? (exec (.storeWriteComplete (writtenAreas 3 area))
        ((lane 0).setStore { (lane 0).store with writing := true, audit := 4 }))
      (fun t => (t.store.audit, readAudit t.store.nv.audit, t.store.current, t.latched)) =
    some (4, none, false, [.storeFault]) := by decide +kernel

theorem witness_PlainParameterTakesItsValue :
    isMetrology .drawerUnits = false ∧ settableValue .drawerUnits (lane 0) = some 30 ∧
    plainSet .drawerUnits 81 (lane 0).params = none ∧
    (plainSet .drawerUnits 29 (lane 0).params = some { (lane 0).params with drawerUnits := 29 } ∧
      plainRefusal .drawerUnits { (lane 0).params with drawerUnits := 29 } (lane 0) = none) ∧
    ¬(31 + 10 ≤ 80 / 2) ∧ (30 + 10 ≤ 80 / 2 ∧ 20 + 10 ≤ 80 / 2 ∧ 8 ≤ (80 / 2 - 10) * 50 / 25) ∧
    (((lane 0).setRail { stepper := ⟨.granted, 11, 0⟩ }).rail.stepper.phase ≠ .none ∧ ¬(30 + 11 ≤ 80 / 2)) ∧
    80 < ((lane 0).setRail { drawer := ⟨.granted, 81, 0⟩ }).rail.granted := by decide

/-- The effects of plain parameters: a state that meets the hypotheses of each clause. -/
theorem witness_plain_effects :
    (plainSet .holdLightLine 2 { (lane 0).params with printerLightLine := some 2 }).map (·.holdLightLine) = some (some 2) ∧
    (plainSet .channelEnableB 0 (lane 0).params).map (·.channelEnableB) = some false ∧
    (plainSet .channelEnableB 1 { (lane 0).params with channelEnableB := false }).map (·.channelEnableB) = some true ∧
    ((sensedDrawer .closed).drawer.level = some true ∧ (sensedDrawer .closed).drawer.state = .closed ∧
      levelOpen .openHigh true = true) ∧
    ((sensedDrawer .opened).drawer.openStamp = some 0 ∧ levelOpen .openLow true = false ∧
      60 * 1000 ≤ age (at_ 60000 (sensedDrawer .opened)).now 0) ∧
    (((lane 0).setRail { cutter := ⟨.waiting, 20, 0⟩, stepper := ⟨.granted, 60, 0⟩ }).rail.granted + 20 ≤ 80 ∧
      ((lane 0).setRail { cutter := ⟨.waiting, 20, 0⟩ }).rail.drawer.phase ≠ .waiting) ∧
    ((lane 0).setLines { directions := 128 }).lines.directions.getLsbD (7 : Fin 8).val = true ∧
    (NoneWaiting (lane 0) ∧ rowPhase (lane 0) ≠ some .reached ∧ (lane 0).drawer.level = none) := by decide

theorem witness_PendingWeighingOpensAndEnds :
    ((lane 0).chanP.state ≠ .off ∧ (lane 0).chanP.state ≠ .uncalibrated) ∧
    findEntry [bananas] 1 = some bananas ∧ bananas.attendantOnly = false ∧ bananas.presetTare = none ∧
    (lane 0).receipt.mode = .attended ∧ (List.replicate 24 (0x41 : Byte)).length ≤ 24 ∧
    ((lane 0).setPricing { weighing := some weighing }).pricing.weighing = some weighing ∧
    (lane 0).pricing.weighing = none := by decide

/-- A pending weighing over a net, in a mode. -/
def toLock (s : State) : State := s.setPricing { s.pricing with weighing := some weighing }

theorem witness_LockIsJudgedInOrder :
    ((toLock (lane 40000)).pricing.weighing = some weighing ∧ (toLock (lane 40000)).chanP.state = .ready ∧
      (toLock (lane 40000)).verifier ≠ .hold ∧ (toLock (lane 40000)).pricing.clearRequired = false ∧
      (toLock (lane 40000)).chanP.reading = some (weight 40000) ∧ 20 * (lane 40000).met.pE1 ≤ 40000 ∧
      priceOf weighing 40000 ≤ 999999) ∧
    ((toLock (selfLane 15000000)).receipt.state = .opened ∧ (toLock (selfLane 15000000)).verifier ≠ .hold ∧
      (toLock (selfLane 15000000)).bag.queue.length < 8 ∧ (15000000 : Int) ≤ (selfLane 15000000).met.pMax ∧
      priceOf weighing 15000000 ≤ 999999) ∧
    (lane 0).pricing.weighing = none ∧ State.reset.chanP.state ≠ .ready ∧
    ((selfLane 0).setReceipt { mode := .selfService }).receipt.state = .closed ∧
    ((selfLane 0).setBag { reasons := { removed := true } }).verifier = .hold ∧
    ((lane 0).setPricing { weighing := some weighing, clearRequired := true }).pricing.clearRequired = true ∧
    { weight 0 with stable := false }.stable = false ∧ { weight 0 with nd := none }.nd = none ∧
    (38000 : Int) < 20 * (lane 0).met.pE1 ∧ (lane 0).met.pMax < 15005000 ∧
    999999 < priceOf (priced 999999 .perKg 1) 15000000 ∧
    32 ≤ ((lane 0).setPricing { tickets := List.replicate 32 cherries }).pricing.tickets.length ∧
    8 ≤ ((selfLane 0).setBag { queue := List.replicate 8 ⟨1, 1, 0, 2, .inlineWeight, 0, false⟩ }).bag.queue.length := by
  decide

theorem witness_TicketsJoinOnlyByALock :
    (match exec (.lock h) (toLock (lane 40000)) with
     | .next t => decide ((toLock (lane 40000)).pricing.tickets.length < t.pricing.tickets.length)
     | _ => false) = true := by decide

/-- A lane that holds the ticket CHERRIES, 180 seconds after its lock. -/
def oneTicket (k : Ticket) : State := at_ 180000 ((lane 0).setPricing { tickets := [k], nextTicket := 2 })

theorem witness_LockedTicketsLeave :
    findTicket (oneTicket { cherries with lockTime := 0 }) 1 = some { cherries with lockTime := 0 } ∧
    cherries.state = .locked ∧ (ticketIn .printed (some 5)).state ≠ .locked ∧
    (oneTicket cherries).params.refLifetime * 1000 ≤ age (oneTicket cherries).now 0 := by decide

/-- A Standby bank in a state. -/
def items (state : StandbyState) (standby : List ItemEntry) : State := (lane 0).setItems { standby := standby, state := state }

theorem witness_StagingFillsTheStandbyBank :
    (items .empty []).items.state ≠ .commitPending ∧ (items .commitPending []).items.state = .commitPending ∧
    (items .sealed []).items.state ≠ .staging ∧
    ((items .staging []).items.state = .staging ∧ firstFault (lane 0).met bananas = none ∧
      firstFault (lane 0).met { bananas with price := 1000000 } = some .price) ∧
    ([bananas].length ≤ 16 ∧ (items .staging []).items.standby.length + [bananas].length ≤ 4096) ∧
    entriesFit [bananas] = true := by decide

/-- R64: an entry whose code is present is replaced, and of two with one code the later stands. -/
theorem witness_staging_replaces :
    BanksOrdered (items .staging [bananas]) ∧ [2].Nodup ∧
    ((∃ e ∈ [{ bananas with price := 5 }, { bananas with code := 2 }, { bananas with price := 6 }], e.code = 2) ∧
      ∀ x ∈ (items .staging [bananas]).items.standby, x.code ≠ 2) ∧
    after? (exec (.stageEntries h [{ bananas with price := 5 }, { bananas with code := 2 }, { bananas with price := 6 }])
        (items .staging [bananas])) (fun t => (t.items.standby.map fun e => (e.code, e.price), t.link.replies.map (·.body))) =
      some ([(1, 6), (2, 219)], [.staged 1 2 2]) := by decide +kernel

/-- A Standby bank of so many entries. -/
def bankOf (n : Nat) : State := items .staging ((List.range n).map fun i => { bananas with code := i + 1 })

theorem bankOf_ordered (n : Nat) (hn : n ≤ 4096) : BanksOrdered (bankOf n) ∧ (bankOf n).items.standby.length = n := by
  refine ⟨⟨List.Pairwise.nil, ?_, Nat.zero_le _, ?_⟩, ?_⟩
  · show ((List.range n).map fun i => { bananas with code := i + 1 }).Pairwise (fun a b => a.code < b.code)
    rw [List.pairwise_map]
    exact List.pairwise_lt_range.imp (fun h => by simpa using h)
  · show ((List.range n).map fun i => { bananas with code := i + 1 }).length ≤ 4096
    simpa using hn
  · show ((List.range n).map fun i => { bananas with code := i + 1 }).length = n
    simp

theorem witness_staging_full : BanksOrdered (bankOf 4096) ∧ 4096 < (bankOf 4096).items.standby.length + [5000].length :=
  ⟨(bankOf_ordered 4096 (Nat.le_refl _)).1, by rw [(bankOf_ordered 4096 (Nat.le_refl _)).2]; decide⟩

theorem witness_StageDeleteAndAbandon :
    1 ≤ (List.replicate 16 1).length ∧ (List.replicate 16 1).length ≤ 16 ∧ (items .empty []).items.state ≠ .staging ∧
    (items .staging [bananas]).items.state = .staging := by decide

theorem witness_SealedBankIsCommitted :
    ((items .staging []).items.state = .staging ∧
      ((items .staging []).items.standby.length, crc32 ((items .staging []).items.standby.flatMap serialize)) =
        (0, 0)) ∧
    ((items .staging []).items.standby.length, crc32 ((items .staging []).items.standby.flatMap serialize)) ≠ (1, 0) ∧
    (items .sealed []).items.state ≠ .staging ∧ (items .staging []).items.state ≠ .sealed ∧
    ((lane 0).setItems { state := .sealed, check := some (0, 0) }).items.check = some (0, 0) ∧
    (selfLane 0).receipt.state ≠ .closed ∧ (lane 0).receipt.state = .closed := by decide

theorem witness_TablesAreQueried :
    ((lane 0).setItems { active := [bananas] }).items.active.find? (fun x => x.code == 1) = some bananas ∧
    (∀ e ∈ ((lane 0).setItems { active := [bananas] }).items.active, e.code ≠ 99999) ∧
    (oneTicket cherries).pricing.tickets.find? (fun x => x.number == 1) = some cherries ∧
    (∀ k ∈ (oneTicket cherries).pricing.tickets, k.number ≠ 65535) := by decide

def waiting : Expectation := ⟨1, 100000, 80000, 120000, .inlineWeight, 0, false⟩

theorem witness_ExpectationsAndOverrideAreJudged :
    ((selfLane 0).receipt.mode = .selfService ∧ (selfLane 0).receipt.state = .opened ∧ (selfLane 0).bag.queue.length < 8) ∧
    ((1 : Int) ≤ 1 ∧ (60000000 : Int) ≤ 60000000 ∧
      max ((selfLane 0).params.bagTolAbs : Int) (((selfLane 0).params.bagTolPct : Int) * 60000000 / 100) = 6000000) ∧
    (findEntry ((selfLane 0).setItems { active := [bananas] }).items.active 1 = some bananas ∧
      bananas.bagWeight = some 60000000 ∧ bananas.bagTolerance = some 0) ∧
    (selfLane 0).attendant = false ∧ (attended (selfLane 0)).attendant = true ∧
    ((attended (selfLane 0)).setBag { queue := [waiting] }).bag.queue.find? (fun x => x.id == 1) = some waiting ∧
    (∀ e ∈ ((attended (selfLane 0)).setBag { queue := [waiting] }).bag.queue, e.id ≠ 255) ∧
    (lane 0).receipt.mode = .attended ∧ ((selfLane 0).setBag { reasons := { removed := true } }).bag.reasons.any = true := by
  decide

/-- R81: a state and operands for each refusal of EXPECT, at the boundary of its check. -/
theorem witness_expect_refusals :
    (some 1).isSome = (some (1 : Int)).isSome ∧ (none : Option Nat).isSome = (none : Option Int).isSome ∧
    (some 1).isSome ≠ (none : Option Int).isSome ∧
    ((lane 0).receipt.mode = .attended ∧ ((selfLane 0).setReceipt { mode := .selfService }).receipt.state = .closed) ∧
    ((0 : Int) < 1 ∧ (60000000 : Int) < 60000001) ∧ findEntry (selfLane 0).items.active 1 = none ∧
    findEntry ((selfLane 0).setItems { active := [{ bananas with bagWeight := none }] }).items.active 1 =
      some { bananas with bagWeight := none } ∧
    8 ≤ ((selfLane 0).setBag { queue := List.replicate 8 waiting }).bag.queue.length := by decide

/-- R83, R92: the events of an EXPECT_CANCEL of the last OVERDUE expectation, and of an OVERRIDE that ends a hold, that adds the scale
fault again in one, and that enters one with it. -/
theorem witness_hold_events :
    (let s := attended (selfLane 0)
     let told := fun (c : Instr) (t : State) => after? (exec c t) fun u => u.link.alerts.map (·.event)
     told (.expectCancel h 1) (s.setBag { queue := [{ waiting with overdue := true }], reasons := { overdue := true } }) =
       some [.bag (.holdCleared .expectationGone { overdue := true }) {} none] ∧
     told (.override h) (s.setBag { reasons := { removed := true }, holdReference := some 0, wref := some 5000 }) =
       some [.bag (.holdCleared .override { removed := true }) {} (some 0)] ∧
     told (.override h) ((s.setChan .B { s.chanB with state := .fault }).setBag { reasons := { removed := true }, wref := some 0 }) =
       some [.bag (.scaleFault .fault false) { scaleFault := true } (some 0)] ∧
     told (.override h) ((s.setChan .B { s.chanB with state := .fault }).setBag { wref := some 0 }) =
       some [.bag (.scaleFault .fault false) { scaleFault := true } (some 0),
         .bag .holdEntered { scaleFault := true } none]) := by decide

theorem witness_VerifierTimersExpire :
    (((selfLane 0).setBag { queue := [waiting] }).bag.queue.find? (fun x => x.id == 1) = some waiting ∧
      waiting.overdue = false ∧
      (at_ 15000 (selfLane 0)).params.placeTimeout * 1000 ≤ age (at_ 15000 (selfLane 0)).now waiting.posted) ∧
    (((selfLane 0).setBag { reasons := { removed := true }, lightDue := some 500 }).verifier = .hold ∧
      reached (at_ 500 (selfLane 0)).now 500 = true) := by decide

/-- Channel B before a sample that settles its reading at 120,000 mg, stable since 0; the verifier's reasons, Wref, hold reference and
queue. -/
def watchingB (state : ReceiptState) (reasons : Reasons) (wref back : Option Int) (queue : List Expectation) : State :=
  at_ 1000 { selfLane 0 with
    chanB := { readyChan 32 0 with filter := List.replicate 32 100000, stability := List.replicate 16 119209 }
    receipt := { mode := .selfService, state := state, number := some 5 }
    bag := { reasons := reasons, wref := wref, holdReference := back, queue := queue } }

/-- What the sample leaves in the verifier. -/
def judgedB (state : ReceiptState) (reasons : Reasons) (wref back : Option Int) (queue : List Expectation) :
    Option Bag :=
  after? (exec (.sampleArrival .B 100000) (watchingB state reasons wref back queue))
    (fun t => { t.bag with offered := {}, lightOn := false, lightDue := none })

def bagOf (reasons : Reasons) (wref back : Option Int) (queue : List Expectation) : Option Bag :=
  some { reasons := reasons, wref := wref, holdReference := back, queue := queue }

/-- The hypotheses that every case of the statement shares, met by the sample. -/
theorem witness_StableChangesAreJudged :
    after? (exec (.sampleArrival .B 100000) (watchingB .opened {} (some 120000) none []))
      (fun t => t.chanB.reading.map fun r => (r.stable, r.nd, r.stableSince, r.overload)) =
      some (some (true, some 120000, some 0, false)) ∧
    (pushWindow (filterLenOf (lane 0).met .B) (watchingB .opened {} none none []).chanB.filter 100000).length =
      filterLenOf (lane 0).met .B ∧
    (watchingB .opened {} none none []).params.bagSettle ≤ age (watchingB .opened {} none none []).now 0 := by decide +kernel

/-- R86, R87, R89, R85: a change of 9,999 mg and one of 10,000 mg with the receipt CLOSED, a removal, a match at the window's edge, a
placement below every window, and Wref absent. -/
theorem witness_settled_changes :
    [judgedB .opened {} (some 110001) none [], judgedB .closed {} (some 110000) none [],
     judgedB .opened {} (some 130000) none [], judgedB .opened {} (some 0) none [waiting],
     judgedB .opened {} (some (-1)) none [waiting], judgedB .opened {} none none []] =
    [bagOf {} (some 110001) none [], bagOf {} (some 120000) none [],
     bagOf { removed := true } (some 130000) (some 130000) [], bagOf {} (some 120000) none [],
     bagOf { unexpected := true } (some (-1)) (some (-1)) [waiting], bagOf {} (some 120000) none []] := by decide +kernel

/-- R88, R90, R91: the return test at 9,999 mg and at 10,000 mg, and with the receipt CLOSED; the recovery from a scale fault with
Wref absent, near and far. -/
theorem witness_returns_and_recoveries :
    [judgedB .opened { unexpected := true } (some 0) (some 110001) [],
     judgedB .opened { removed := true } (some 0) (some 110000) [],
     judgedB .closed { removed := true } (some 0) (some 110000) [],
     judgedB .opened { scaleFault := true } none none [], judgedB .opened { scaleFault := true } (some 110000) none [],
     judgedB .opened { scaleFault := true } (some 110001) none []] =
    [bagOf {} (some 120000) none [], bagOf { removed := true } (some 0) (some 110000) [],
     bagOf { removed := true } (some 120000) (some 110000) [], bagOf {} (some 120000) none [],
     bagOf { unexpected := true } (some 110000) (some 110000) [], bagOf {} (some 110001) none []] := by decide +kernel

/-- R90, R85: an overload reading, one that is not stable, and one stable for less than BAG_SETTLE. -/
theorem witness_unusable_readings :
    after? (exec (.sampleArrival .B 100000)
        { watchingB .opened {} (some 0) none [] with
          store := { (lane 0).store with work := { area with params := { bMax := 50000 } } } })
      (fun t => (t.chanB.reading.map (·.overload), t.bag.reasons.scaleFault)) = some (some true, true) ∧
    after? (exec (.sampleArrival .B 0) (watchingB .opened {} (some 0) none []))
      (fun t => (t.chanB.reading.map (·.stable), t.bag.reasons.any)) = some (some true, true) ∧
    after? (exec (.sampleArrival .B 8000000) (watchingB .opened {} (some 0) none []))
      (fun t => (t.chanB.reading.map (·.stable), t.bag.reasons.any)) = some (some false, false) ∧
    after? (exec (.sampleArrival .B 100000) { watchingB .opened {} (some 0) none [] with clock := 299000 })
      (fun t => t.bag.reasons.any) = some false := by decide +kernel

/-- A Card Port in a state, with a receiver and a buffer. -/
def port (p : PortState) (rx : ReaderRx) (b : Option CardBuffer) : State :=
  (lane 0).setCard { port := p, rx := rx, buffer := b, attempts := 1, armDue := some 0 }

theorem witness_CardPortIsArmedAndDisarmed :
    (port .armed {} none).card.port ≠ .disarmed ∧
    4 ≤ ((lane 0).setCard { slips := List.replicate 4 (slipIn .held none) }).card.slips.length ∧
    ((lane 0).setCard { slips := List.replicate 3 (slipIn .held none) }).card.slips.length < 4 ∧
    (port .receiving {} none).card.port = .receiving ∧ (port .forwarding {} none).card.port = .forwarding := by decide

theorem witness_ReaderAssemblesRecords :
    (lane 0).card.rx.phase = .hunt ∧ (port .receiving { phase := .kind } none).card.rx.phase = .kind ∧
    ((port .receiving { phase := .length } none).card.rx.phase = .length ∧ (120 : Byte).toNat ≤ 120 ∧ 120 < (121 : Byte).toNat) ∧
    (port .receiving { phase := .payload, length := 1 } none).card.rx.phase = .payload ∧
    (port .receiving { phase := .check, sum := 1 } none).card.rx.sum + 0 ≠ 0 ∧
    500 ≤ age (at_ 500 (port .receiving { phase := .kind } none)).now 0 := by decide

/-- Section 6.1: a SWIPE payload of the account 4000123456789017, expiry 2712, service 201. -/
def swipePayload : List Byte := ascii "4000123456789017=2712201"

def swipeBuffer (payload : List Byte) : CardBuffer := ⟨0x01, payload, none⟩

def readDone (destination : Destination) (payload : List Byte) : State :=
  port (if destination = .store then .receiving else .disarmed)
    { phase := .check, kind := 0x01, destination := destination } (some (swipeBuffer payload))

theorem witness_CompletedReadsAreJudged :
    ((readDone .store swipePayload).card.rx.phase = .check ∧ (readDone .store swipePayload).card.rx.kind = 0x01 ∧
      (readDone .store swipePayload).card.buffer = some (swipeBuffer swipePayload)) ∧
    (readFault (parseCard 0x01 swipePayload) = none ∧ (parseCard 0x01 swipePayload).isSome = true) ∧
    readFault (parseCard 0x01 (ascii "4000123456789018=2712201")) = some .checkDigit ∧
    24 ≤ ((lane 0).setLink { alerts := List.replicate 24 ⟨0, .lane (.sealOpened 0)⟩ }).link.alerts.length ∧
    (readDone .count swipePayload).card.rx.destination = .count ∧
    (readDone .skip swipePayload).card.rx.destination = .skip := by decide

theorem witness_OtherRecordsAndEndsAreJudged :
    ((port .receiving { phase := .check, kind := 0x03, destination := .store } none).card.rx.phase = .check ∧
      (lane 0).link.alerts.length < 24) ∧
    (port .armed { phase := .check, kind := 0x04, destination := .count } none).card.rx.destination ≠ .skip ∧
    4 < (port .armed { phase := .check, kind := 0x05 } none).card.rx.kind.toNat ∧
    ((port .receiving {} none).card.armDue = some 0 ∧ reached (lane 0).now 0 = true) ∧
    ((port .forwarding {} (some (swipeBuffer swipePayload))).card.buffer = some (swipeBuffer swipePayload) ∧
      (parseCard 0x01 swipePayload).isSome = true) ∧
    (((lane 0).setCard { slips := [slipIn .held none] }).card.slips.find? (fun x => x.id == 1) = some (slipIn .held none) ∧
      (at_ 180000 (lane 0)).params.refLifetime * 1000 ≤ age (at_ 180000 (lane 0)).now (slipIn .held none).readTime) ∧
    (slipIn .attached (some 5)).state ≠ .held := by decide

theorem witness_MaskedNumberHidesTheAccount :
    12 ≤ (ascii "123456789015").length ∧ (List.replicate 19 (0x30 : Byte)).length ≤ 19 ∧
    13 ≤ (ascii "4222222222222").length := by decide

theorem witness_LaneModeIsJudgedAndChanges :
    (selfLane 0).receipt.state ≠ .closed ∧ ((lane 0).receipt.state = .closed ∧ (lane 0).attendant = false) ∧
    ((attended (lane 0)).attendant = true ∧ (attended (lane 0)).receipt.mode = .attended) ∧
    LaneMode.selfService ≠ (attended (lane 0)).receipt.mode := by decide

/-- R122: the events of a change to SELF with a usable channel B, and with channel B in FILLING. -/
theorem witness_mode_change_events :
    after? (exec (.laneMode h (some .selfService)) ((attended (lane 0)).setPricing { weighing := some weighing }))
      (fun t => t.link.alerts.map (·.event)) =
      some [.weighingCancelled 1 .modeChange, .bag (.referenceSet 0) {} (some 0), .lane (.modeChanged .selfService)] ∧
    after? (exec (.laneMode h (some .selfService)) { attended (lane 0) with chanB := { state := .filling } })
      (fun t => t.link.alerts.map (·.event)) =
      some [.bag (.scaleFault .filling false) { scaleFault := true } none, .bag .holdEntered { scaleFault := true } none,
        .lane (.modeChanged .selfService)] := by decide +kernel

/-- A receipt in a state. -/
def receipt (state : ReceiptState) : State := (lane 0).setReceipt { state := state, number := some 5 }

theorem witness_ReceiptOpensAndTakesTenders :
    (0 < 1 ∧ 999999 < 1000000) ∧ (receipt .closing).receipt.state = .closing ∧ (receipt .opened).receipt.state = .opened ∧
    ((lane 0).receipt.state = .closed ∧ (lane 0).receipt.marker = none) ∧
    (((lane 0).setDrawer { state := .claiming }).setParams { closeBeforeSale := true }).drawer.state ≠ .closed ∧
    (lane 0).params.closeBeforeSale = false ∧
    ((1 : Int) ≤ 99999999 ∧ (receipt .tendering).receipt.number = some 5 ∧
      ((receipt .tendering).setReceipt { tenders := List.replicate 7 ⟨.cash, 1, none⟩ }).receipt.tenders.length < 8) ∧
    ((lane 0).setCard { slips := [slipIn .held none] }).card.slips.find? (fun x => x.id == 1) = some (slipIn .held none) := by
  decide

/-- R125: a state for each refusal of TENDER, at the boundary of its check. -/
theorem witness_tender_refusals :
    ¬(TenderKind.card = .card ↔ (none : Option Nat).isSome = true) ∧ ¬(TenderKind.cash = .card ↔ (some 1).isSome = true) ∧
    ((0 : Int) < 1 ∧ (99999999 : Int) < 100000000) ∧ (lane 0).receipt.state = .closed ∧
    8 ≤ ((receipt .tendering).setReceipt { tenders := List.replicate 8 ⟨.cash, 1, none⟩ }).receipt.tenders.length ∧
    (∀ p, ((receipt .opened).setCard { slips := [slipIn .printed (some 5)] }).card.slips.find? (fun x => x.id == 1) = some p →
      p.state = .printed) ∧ (receipt .opened).receipt.tenders.length < 8 := by
  refine ⟨by decide, by decide, by decide, by decide, by decide, ?_, by decide⟩
  intro p hp
  have : p = slipIn .printed (some 5) := by simpa [State.setCard, slipIn] using hp.symm
  rw [this]; rfl

theorem reset_printConsistent : PrintConsistent (receipt .opened) := by
  simp [PrintConsistent, headFits, receipt, lane, State.reset, State.setReceipt, State.headEntry, rowPhase, headClaimPhase]

theorem witness_ReceiptClosesOrIsAbandoned :
    (receipt .closed).receipt.state = .closed ∧
    ((receipt .opened).receipt.state = .opened ∧ (receipt .opened).verifier ≠ .hold ∧ (receipt .opened).receipt.mode = .attended ∧
      (receipt .opened).receipt.number = some 5 ∧ (0 : Int) = ((receipt .opened).receipt.subtotal : Int)) ∧
    ((selfLane 0).setBag { reasons := { overdue := true } }).verifier = .hold ∧
    (((selfLane 0).setBag { queue := [waiting] }).verifier ≠ .hold ∧ ((selfLane 0).setBag { queue := [waiting] }).bag.queue ≠ []) ∧
    (1 : Int) ≠ ((receipt .opened).receipt.subtotal : Int) ∧
    ((selfLane 0).receipt.mode = .selfService ∧ (selfLane 0).attendant = false) ∧ (attended (selfLane 0)).attendant = true := by
  decide

/-- A lane with the printer stopped, a deferred commit, and a receipt with a ticket and a tender. -/
def toEnd (state : ReceiptState) : State :=
  (((receipt state).setReceipt
    { state := state, number := some 5, openedTime := some 7, tickets := [1], subtotal := 143, tenders := [⟨.cash, 300, none⟩]
      marker := some ⟨.close, 5, .full⟩ }).setPricing { tickets := [ticketIn .printed (some 5)], nextTicket := 2 }).setItems
    { state := .commitPending, check := some (0, 9) }

/-- RECEIPT_DONE of that receipt and TABLE_SWITCHED behind it. -/
def endEvents (ending : Ending) : List Event :=
  [.receiptDone ⟨some 5, ending, some 7, 0, 143, 1, 0, 1, 300, .attended⟩, .lane (.tableSwitched 1 0 9)]

/-- R128, R130, R132, R68: the ticket list of a mismatch, and the events of an abandon with a stopped printer. -/
theorem witness_mismatch_and_abandon :
    (1 : Int) ≠ ((toEnd .opened).receipt.subtotal : Int) ∧
    ((toEnd .opened).receipt.tickets.filterMap fun n => ((toEnd .opened).pricing.tickets.find? fun k => k.number == n).map
      fun k => (k.number, k.price)) = [(1, 143)] ∧
    after? (exec (.abandonReceipt h) ((toEnd .opened).setMech { state := .stopped, reason := some .cutterJam }))
      (fun t => (t.link.alerts.map (·.event), t.items.generation, t.pricing.tickets)) =
      some (endEvents .abandoned, 1, []) := by decide +kernel

/-- A Print Queue of so many FEED records. -/
def queued (n : Nat) : State := (receipt .opened).setComposer { queue := List.replicate n (.record (.feed 1) none) }

theorem witness_PrintRecordsAreTaken :
    64 ≤ recordCount (queued 64).composer ∧
    (recordCount (queued 63).composer < 64 ∧ (queued 63).composer.queue ≠ []) ∧
    (malformedRecord (.feed 0) = true ∧ malformedRecord (.feed 256) = true ∧ malformedRecord (.unknownPrintCode 0x27) = true) ∧
    (plainContent (.feed 1) = some (.feed 1) ∧ plainContent (.feed 255) = some (.feed 255)) ∧
    (plainContent (.textLine [] false true false) = some (.text [] false true) ∧
      plainContent (.cut (some .full)) = some (.cut .full)) ∧
    (((receipt .opened).setComposer { lines := [feedEntry 1] }).composer.lines ≠ [] ∧
      Settled ((receipt .opened).setComposer { lines := [feedEntry 1] })) := by decide +kernel

/-- An open receipt with a ticket and a slip, and a record waiting. -/
def referring (k : Ticket) (p : Slip) : State :=
  ((queued 1).setPricing { tickets := [k] }).setCard { slips := [p] }

theorem witness_ReferencesAreResolved :
    (recordCount (referring cherries (slipIn .held none)).composer < 64 ∧ (receipt .closing).receipt.state = .closing) ∧
    ((referring cherries (slipIn .held none)).receipt.number = some 5 ∧
      findTicket (referring cherries (slipIn .held none)) 65535 = none ∧ findSlip (referring cherries (slipIn .held none)) 0 = none) ∧
    (findTicket (referring cherries (slipIn .held none)) 1 = some cherries ∧ cherries.state = .locked) ∧
    (ticketIn .attached (some 4)).receipt ≠ some 5 ∧
    ((ticketIn .printed (some 5)).state ≠ .locked ∧ (ticketIn .printed (some 5)).voidRequested = false) ∧
    { ticketIn .printed (some 5) with voidRequested := true }.voidRequested = true ∧
    (slipIn .printed (some 5)).state = .printed ∧ (slipIn .held none).state = .held ∧
    ((slipIn .attached (some 5)).state = .attached ∧ (slipIn .attached (some 5)).lineRequested = false) := by decide

/-- An empty Print Queue and Line Queue with the drawer's claim waiting. -/
def drawerFirst : State :=
  (lane 0).setRail { drawer := ⟨.waiting, 30, 0⟩, cutter := ⟨.granted, 51, 0⟩ }

def lingering : State := (lane 0).setMech { hold := .lingering, stepperUnits := some 10, lingerDue := some 0 }

theorem witness_ComposerTakesItems :
    ((printing (feedEntry 2) none).composer.queue = [] ∧ (printing (feedEntry 2) none).composer.lines ≠ [] ∧
      Settled (printing (feedEntry 2) none)) ∧
    itemEntries (lane 0) (.record (.feed 1) none) = [feedEntry 1] ∧ 8 < (List.replicate 8 (feedEntry 1)).length + 1 ∧
    (List.replicate 7 (feedEntry 1)).length + 1 ≤ 8 ∧
    (recordEntries drawerFirst none (.feed 1) = [feedEntry 1] ∧ firstWaiting drawerFirst.rail = some .drawer ∧
      drawerFirst.ceff < drawerFirst.rail.granted + (drawerFirst.rail.claim .drawer).units ∧
      drawerFirst.mech.hold = .released ∧ drawerFirst.rail.stepper.phase = .none ∧ drawerFirst.mech.state = .idle) ∧
    (recordEntries lingering none (.cut .full) = [⟨.cutMark .full, none, none⟩] ∧ lingering.mech.hold = .lingering ∧
      NoneWaiting lingering ∧ lingering.rail.cutter.phase = .none ∧
      lingering.rail.granted + lingering.params.cutterUnits ≤ lingering.ceff) := by decide +kernel

/-- The hold's claims that work at once: with nothing else granted, with exactly the room left, and with the hold LINGERING. -/
theorem witness_first_entry :
    ((lane 0).mech.hold = .released ∧ (lane 0).rail.stepper.phase = .none ∧ NoneWaiting (lane 0)) ∧
    ((lane 0).setRail { drawer := ⟨.granted, 70, 0⟩ }).rail.granted + (lane 0).params.stepperUnits ≤ (lane 0).ceff ∧
    (lingering.mech.flushed = false ∧ lingering.mech.row = none) := by decide

/-- What a record that is the first entry of an empty Line Queue leaves of the mechanism. -/
def firstEntry (c : Instr) (s : State) : Option (PrintState × Option RowPhase × ClaimPhase) :=
  after? (exec c s) fun t => (t.mech.state, rowPhase t, t.rail.cutter.phase)

/-- R152, R153: work begins in the event: a row that waits for its step, a cut with the room and without, and WAIT_HOT. -/
theorem test_first_entry :
    [firstEntry (.feed 2) ((lane 0).setMech { lastStep := some 0 }),
     firstEntry (.cut (some .full)) ((lane 0).setRail { drawer := ⟨.granted, 50, 0⟩ }),
     firstEntry (.cut (some .full)) ((lane 0).setRail { drawer := ⟨.granted, 51, 0⟩ }),
     firstEntry (.feed 2) (lingering.setMech { lingering.mech with lastStep := some 0 }),
     firstEntry (.textLine [] false false false) ((lane 0).setMech { overheat := true })] =
    [some (.running, some .awaiting, .none), some (.cutting, none, .granted), some (.cutting, none, .waiting),
     some (.running, some .awaiting, .none), some (.waitHot, none, .none)] := by decide +kernel

/-- A row with groups, its head group being fired by PG-H. -/
def firing (groups : List (List Nat)) (index : Nat) : State :=
  at_ 1 (((printing (textEntry1 [dots 16] none) (some ⟨groups, index, .firing, 25⟩)).setRail
    { stepper := ⟨.granted, 10, 0⟩, head := ⟨.granted, 8, 0⟩ }).setPgH
    { phase := .pulsing, wait := 100, pulse := 800, due := some 1000 })

theorem witness_HeadPulsesFireTheGroups :
    ((lane 0).setPgH { phase := .waiting, wait := 0, pulse := 800, due := some 0 }).pgH.phase = .waiting ∧
    genDue ((lane 0).setPgH { phase := .waiting, wait := 0, pulse := 800, due := some 0 }).pgH (lane 0).clock = true ∧
    (lane 0).pgH.phase ≠ .waiting ∧ genDue (lane 0).pgH (lane 0).clock = false ∧
    ((firing [[0], [1]] 0).pgH.phase = .pulsing ∧ genDue (firing [[0], [1]] 0).pgH (firing [[0], [1]] 0).clock = true ∧
      (firing [[0], [1]] 0).mech.row = some ⟨[[0], [1]], 0, .firing, 25⟩ ∧
      (firing [[0], [1]] 0).rail.drawer.phase ≠ .waiting ∧ (firing [[0], [1]] 0).rail.cutter.phase ≠ .waiting ∧
      (firing [[0], [1]] 0).rail.stepper.phase ≠ .waiting) ∧
    ((firing [] 0).ceff - heldUnits (firing [] 0) = 70 ∧ groupUnits 25 (List.range 140) = 70 ∧
      groupUnits 25 (List.range 141) = 71 ∧ (firing [] 0).params.headSettle ≠ 0 ∧
      grantedUnits (firing [] 0).rail.drawer + grantedUnits (firing [] 0).rail.cutter +
        grantedUnits (firing [] 0).rail.stepper + 70 ≤ (firing [] 0).ceff) ∧
    (firing [[0], [1]] 0).pgH.next = none ∧
    ((firing [[0], List.range 141] 0).mech.row = some ⟨[[0], List.range 141], 0, .firing, 25⟩ ∧
      genDue (firing [[0], List.range 141] 0).pgH (firing [[0], List.range 141] 0).clock = true ∧
      (firing [[0], List.range 141] 0).pgH.phase = .pulsing ∧
      (firing [[0], List.range 141] 0).rail.drawer.phase ≠ .waiting ∧
      (firing [[0], List.range 141] 0).rail.cutter.phase ≠ .waiting ∧
      (firing [[0], List.range 141] 0).rail.stepper.phase ≠ .waiting ∧
      0 + 1 < [[0], List.range 141].length ∧
      (firing [[0], List.range 141] 0).ceff - heldUnits (firing [[0], List.range 141] 0) <
        groupUnits 25 (nextGroup ⟨[[0], List.range 141], 0, .firing, 25⟩)) ∧
    ([[0], [1]].length ≤ 1 + 1 ∧
      stepReady ((firing [[0], [1]] 1).setMech { (firing [[0], [1]] 1).mech with lastStep := some 1000 }) = false) := by
  decide +kernel

/-- R154, section 9.14: the group sizes of the worked example at both rail levels. -/
theorem test_group_size :
    (groupSize (printing (feedEntry 1) none),
      groupSize ((printing (feedEntry 1) none).setRail { (printing (feedEntry 1) none).rail with low := true })) =
    (128, 56) := by decide

/-- Section 9.14: the groups of 300 black dots, and their claims, at both rail levels. -/
theorem test_groups_of_300 :
    ((splitGroups (printing (feedEntry 1) none) (List.range 300)).map (groupUnits 25),
      (splitGroups ((printing (feedEntry 1) none).setRail { (printing (feedEntry 1) none).rail with low := true })
        (List.range 300)).map (groupUnits 25)) =
    ([64, 64, 22], [28, 28, 28, 28, 28, 10]) := by decide +kernel

/-- A row at its step. -/
def atStep (e : LineEntry) : State := printing e (some ⟨[], 0, .awaiting, 25⟩)

theorem witness_PaperIsStepped :
    rowPhase (lane 0) ≠ some .awaiting ∧
    (rowPhase (atStep (feedEntry 2)) = some .awaiting ∧ stepReady (atStep (feedEntry 2)) = true ∧
      (atStep (feedEntry 2)).mech.state = .running ∧ (atStep (feedEntry 2)).mech.flushed = false ∧
      (atStep (feedEntry 2)).headEntry = some (feedEntry 2) ∧ grantable (atStep (feedEntry 2)) = none) ∧
    ((atStep (feedEntry 2)).setMech { (atStep (feedEntry 2)).mech with stops := [⟨.paperOut, false⟩] }).mech.stops =
      [⟨.paperOut, false⟩] ∧
    ((atStep (feedEntry 2)).mech.done + 1 < entryRows (feedEntry 2) ∧ nextRowDots (feedEntry 2) 1 = []) ∧
    (entryKind (textEntry1 [0, dots 1] none) = .textRun ∧ nextRowDots (textEntry1 [0, dots 1] none) 1 ≠ [] ∧
      (atStep (textEntry1 [0, dots 1] none)).mech.overheat = false) ∧
    { (atStep (feedEntry 2)).mech with overheat := true }.overheat = true ∧
    (entryRows (feedEntry 1) ≤ (atStep (feedEntry 1)).mech.done + 1 ∧ (atStep (feedEntry 1)).composer.lines = [feedEntry 1] ∧
      (textEntry1 [0] (some (.ticketPrinted 1))).notice = some (.ticketPrinted 1)) ∧
    (lingering.mech.hold = .lingering ∧ dueReached lingering.now lingering.mech.lingerDue = true ∧ NoneWaiting lingering ∧
      rowPhase lingering ≠ some .reached) := by decide +kernel

theorem witness_CutsCompleteOrJam :
    Settled (lane 0) ∧
    (((cutting (cutEntry none)).setRail { cutter := ⟨.waiting, 80, 0⟩ }).rail.cutter.phase = .waiting ∧
      ((cutting (cutEntry none)).setRail { cutter := ⟨.waiting, 80, 0⟩ }).rail.granted + 80 ≤ (cutting (cutEntry none)).ceff) ∧
    ((cutting (cutEntry none)).mech.home = false ∧ (cutting (cutEntry none)).mech.homeSettled = true ∧
      (cutting (cutEntry none)).mech.jamDue.isSome = true ∧ (cutting (cutEntry none)).mech.hold = .held ∧
      (cutting (cutEntry none)).mech.state = .cutting ∧ (cutting (cutEntry none)).composer.lines = [cutEntry none] ∧
      NoneWaiting (cutting (cutEntry none))) ∧
    ((receipt .closing).receipt.number = some 5 ∧
      (cutEntry (some (.markerCut .close 5))).notice = some (.markerCut .close 5)) ∧
    ((lane 0).setReceipt { marker := some ⟨.abandon, 5, .full⟩ }).receipt.marker = some ⟨.abandon, 5, .full⟩ ∧
    (lane 0).mech.jamDue = none ∧
    (dueReached (at_ 800 (cutting (cutEntry none))).now (cutting (cutEntry none)).mech.jamDue = true ∧
      (cutting (cutEntry none)).mech.row = none) ∧
    dueReached (at_ 799 (cutting (cutEntry none))).now (cutting (cutEntry none)).mech.jamDue = false := by decide

/-- R129, R132, R68: the cut of the close marker, and of one that names another receipt. -/
theorem witness_close_completion :
    (let s := fun n => (toEnd .closing).setComposer { lines := [cutEntry (some (.markerCut .close n))] }
     let cut := fun n => ((s n).setMech (cutting (cutEntry none)).mech).setRail (cutting (cutEntry none)).rail
     let told := fun n => after? (exec (.cutterHome true) (cut n)) fun t =>
       (t.link.alerts.map (·.event), t.receipt.state, t.items.state, t.pricing.tickets.length)
     told 5 = some (endEvents .closed, .closed, .empty, 0) ∧ told 6 = some ([], .closing, .commitPending, 1) ∧
     (cut 6).receipt.number ≠ some 6) := by decide +kernel

/-- A stopped mechanism with a head entry. -/
def stopped (e : LineEntry) : State :=
  ((lane 0).setComposer { lines := [e] }).setMech { state := .stopped, reason := some .cutterJam, paperSettled := true }

theorem witness_StopsAndResumption :
    sensorActive { (lane 0).mech with paperOut := true } .paperOut = true ∧
    (sensorActive (stopped (feedEntry 1)).mech .paperOut = false ∧ sensorSettled (stopped (feedEntry 1)).mech .paperOut = true ∧
      (stopped (feedEntry 1)).mech.state = .stopped) ∧
    sensorSettled { (lane 0).mech with coverSettled := true } .coverOpen = true ∧
    (sensorActive (atStep (feedEntry 2)).mech .coverOpen = false ∧ sensorSettled (atStep (feedEntry 2)).mech .coverOpen = false ∧
      sensorSettled (stopped (feedEntry 1)).mech .coverOpen = false ∧ (lane 0).mech.state = .idle) ∧
    ((atStep (feedEntry 2)).mech.state = .running ∧ (atStep (feedEntry 2)).mech.row.isSome = true) ∧
    ((cutting (cutEntry none)).mech.state = .cutting ∧ (cutting (cutEntry none)).rail.cutter.phase ≠ .none) ∧
    (lane 0).mech.state ≠ .stopped ∧
    ((stopped (feedEntry 1)).mech.paperOut = false ∧ (stopped (feedEntry 1)).mech.coverOpen = false ∧
      Settled (stopped (feedEntry 1)) ∧ (stopped (feedEntry 1)).mech.hold ≠ .held ∧
      (stopped (feedEntry 1)).mech.done < entryRows (feedEntry 1)) := by decide

/-- The state, the reason, the latched conditions and the number of alerts after a step. -/
def stopSeen (r : Result) : Option (PrintState × Option StopReason × List Condition × Nat) :=
  after? r fun t => (t.mech.state, t.mech.reason, t.latched, t.link.alerts.length)

/-- R169: cover-open and paper-out that settle active under a row latch at once, tell nothing, and stop for paper-out at its end. -/
theorem test_settling_under_a_row :
    stopSeen (exec (.paperOutSensor true) (coverOpenSensor true (atStep (feedEntry 2)))) =
      some (.running, none, [.paperOut, .coverOpen], 0) ∧
    stopSeen (exec .paperStep (paperOutSensor true (coverOpenSensor true (atStep (feedEntry 2))))) =
      some (.stopped, some (.sensor .paperOut), [.paperOut, .coverOpen], 0) := by decide +kernel

/-- A stopped mechanism that holds its stepper, with so many rows of its head entry done. -/
def stoppedHeld (e : LineEntry) (done : Nat) : State :=
  (printing e none).setMech
    { state := .stopped, reason := some .cutterJam, hold := .held, stepperUnits := some 10, done := done, lastStep := some 0 }

/-- R164: a run with a row left, a text run with a dot, a cut mark, and a run with all its rows on paper. -/
theorem witness_resumption_with_the_hold :
    ((stoppedHeld (feedEntry 3) 1).mech.state = .stopped ∧ (stoppedHeld (feedEntry 3) 1).mech.hold = .held ∧
      NoneWaiting (stoppedHeld (feedEntry 3) 1) ∧ (stoppedHeld (feedEntry 3) 1).headEntry = some (feedEntry 3) ∧
      (stoppedHeld (feedEntry 3) 1).mech.flushed = false) ∧
    after? (exec (.printResume h) (stoppedHeld (feedEntry 3) 1)) (fun t => (t.mech.state, rowPhase t)) =
      some (.running, some .awaiting) ∧
    after? (exec (.printResume h) (stoppedHeld (textEntry1 [0, dots 3] none) 1))
      (fun t => (t.mech.headDots, rowPhase t, t.rail.head.units)) = some ([0, 1, 2], some .firing, 2) ∧
    after? (exec (.printResume h) (stoppedHeld (cutEntry none) 0)) (fun t => (t.mech.state, t.mech.jamDue)) =
      some (.cutting, some 800) ∧
    after? (exec (.printResume h) (stoppedHeld (textEntry1 [0] none) 1))
      (fun t => (t.mech.state, t.mech.hold, t.composer.lines)) = some (.idle, .lingering, []) := by decide +kernel

/-- WAIT_HOT on a text run with a dot in its next row. -/
def waitingHot : State :=
  (printing (textEntry1 [dots 1] none) none).setMech
    { (printing (textEntry1 [dots 1] none) none).mech with state := .waitHot, overheat := true }

theorem witness_HousekeepingSamplesAreJudged :
    (lane 0).mech.overheat = overheatAfter (lane 0).mech.overheat 64 ∧
    ((lane 0).mech.overheat = false ∧ (65 : Int) ≤ 65) ∧
    (overheatAfter true 55 = true ∧ (54 : Int) < 55 ∧ { (lane 0).mech with overheat := true }.state ≠ .waitHot) ∧
    (waitingHot.mech.overheat = true ∧ waitingHot.mech.state = .waitHot ∧ waitingHot.mech.hold = .held ∧
      waitingHot.mech.row = none ∧ grantable waitingHot = none ∧
      nextRowDots (textEntry1 [dots 1] none) waitingHot.mech.done ≠ []) ∧
    ((lane 0).rail.low = railLowAfter (lane 0).rail.low (lane 0).params.railLowLimit 210) ∧
    ((209 : Nat) < (lane 0).params.railLowLimit ∧ (lane 0).rail.head.phase ≠ .waiting ∧ Settled (lane 0)) ∧
    (((lane 0).setRail { low := true }).rail.low = true ∧ (lane 0).params.railLowLimit + 5 < 216 ∧
      NoneWaiting ((lane 0).setRail { low := true })) := by decide +kernel

theorem witness_DrawerReleaseIsJudged :
    ((lane 0).setDrawer { state := .opened }).drawer.state = .opened ∧
    ((lane 0).setDrawer { state := .confirming }).drawer.state ≠ .closed ∧
    ((selfLane 0).drawer.state = .closed ∧ (selfLane 0).receipt.mode = .selfService ∧ (selfLane 0).attendant = false) ∧
    ((lane 0).receipt.mode = .attended ∧ (lane 0).receipt.permit = false ∧ (lane 0).attendant = false) ∧
    ((attended (lane 0)).attendant = true ∧ (lane 0).rail.drawer.phase = .none ∧ (lane 0).pgD.phase = .idle ∧
      rowPhase (lane 0) ≠ some .reached) ∧
    ((lane 0).setRail { cutter := ⟨.granted, 51, 0⟩ }).ceff <
      ((lane 0).setRail { cutter := ⟨.granted, 51, 0⟩ }).rail.granted + (lane 0).params.drawerUnits ∧
    (((lane 0).setRail { cutter := ⟨.granted, 50, 0⟩ }).rail.granted + (lane 0).params.drawerUnits ≤ (lane 0).ceff ∧
      NoneWaiting ((lane 0).setRail { cutter := ⟨.granted, 50, 0⟩ }) ∧ (lane 0).pgD.next = none ∧ (lane 0).pgD.wait ≠ 0) := by
  decide

/-- The solenoid's pulse at its end. -/
def pulsingD (opened : Option Stamp) : State :=
  at_ 100 (((lane 0).setPgD { phase := .pulsing, wait := 10, pulse := 100, due := some 100 }).setDrawer
    { state := .pulsing, authorization := some .permit, attempts := 1, level := some true, openedInPulse := opened })

/-- The pulse's end with an opening at 50 ms and the sensor SHUT again. -/
def shutAgain : State := (pulsingD (some 50)).setDrawer { (pulsingD (some 50)).drawer with level := some false }

/-- The confirmation window at its end. -/
def confirming (retries : Nat) : State :=
  at_ 500 ((lane 0).setDrawer { state := .confirming, retriesLeft := retries, attempts := 1, confirmDue := some 500 })

theorem witness_ReleaseRunsItsAttempts :
    (((lane 0).setPgD { phase := .waiting, wait := 0, pulse := 100, due := some 0 }).pgD.phase = .waiting ∧
      genDue ((lane 0).setPgD { phase := .waiting, wait := 0, pulse := 100, due := some 0 }).pgD (lane 0).now = true) ∧
    (lane 0).pgD.phase ≠ .waiting ∧ (lane 0).pgD.phase ≠ .pulsing ∧
    ((pulsingD none).pgD.phase = .pulsing ∧ genDue (pulsingD none).pgD (pulsingD none).now = true ∧
      (pulsingD none).rail.cutter.phase ≠ .waiting ∧ (pulsingD none).drawer.openedInPulse = none) ∧
    ((pulsingD (some 50)).drawer.openedInPulse = some 50 ∧ (pulsingD (some 50)).sensorOpen = true) ∧
    ((shutAgain).pgD.phase = .pulsing ∧ genDue shutAgain.pgD shutAgain.now = true ∧
      shutAgain.rail.cutter.phase ≠ .waiting ∧ shutAgain.rail.stepper.phase ≠ .waiting ∧
      shutAgain.rail.head.phase ≠ .waiting ∧ rowPhase shutAgain ≠ some .reached ∧
      shutAgain.drawer.openedInPulse = some 50 ∧ shutAgain.sensorOpen = false) ∧
    (lane 0).sensorOpen = false ∧ (lane 0).drawer.state ≠ .confirming ∧
    ((confirming 0).drawer.state = .confirming ∧ dueReached (confirming 0).now (confirming 0).drawer.confirmDue = true ∧
      (confirming 0).drawer.retriesLeft = 0) ∧
    ((confirming 1).drawer.retriesLeft = 0 + 1 ∧ (confirming 1).rail.drawer.phase = .none ∧
      ((confirming 1).setRail { cutter := ⟨.granted, 51, 0⟩ }).ceff < 51 + (confirming 1).params.drawerUnits) := by decide

/-- A settled sensor level under a drawer state. -/
def sensed (state : DrawerState) (level : Bool) : State :=
  (lane 0).setDrawer { state := state, level := some level, openStamp := some 0, cause := some .release }

theorem witness_DrawerSensorIsSupervised :
    (sensed .closed true).drawer.level = some true ∧ (lane 0).drawer.level = none ∧
    (levelOpen (lane 0).params.drawerSensorPolarity false = false ∧ levelOpen (lane 0).params.drawerSensorPolarity true = true) ∧
    ((sensed .closed false).drawer.level = some (!true) ∧ (sensed .closed false).drawer.state = .closed) ∧
    (sensed .pulsing false).drawer.state = .pulsing ∧ (sensed .confirming false).drawer.state = .confirming ∧
    ((sensed .pulseWait false).drawer.state = .pulseWait ∧ (sensed .pulseWait false).rail.cutter.phase ≠ .waiting ∧
      rowPhase (sensed .pulseWait false) ≠ some .reached) ∧
    ((sensed .opened true).drawer.level = some (!false) ∧ (sensed .opened true).drawer.openStamp = some 0) ∧
    ((sensed .opened true).drawer.tooLong = false ∧
      (sensed .opened true).params.drawerOpenLimit * 1000 ≤ age (at_ 60000 (sensed .opened true)).now 0) ∧
    age (at_ 59999 (sensed .opened true)).now 0 < (sensed .opened true).params.drawerOpenLimit * 1000 := by decide

theorem witness_LinesAndConditionsFollow :
    (lane 0).lines.directions.getLsbD (7 : Fin 8) = false ∧
    ((lane 0).setLines { directions := 128 }).lines.directions.getLsbD (7 : Fin 8) = true ∧
    testedLines (lane 0).lines {} = [] ∧
    testedLines (attended (lane 0)).lines ⟨1, 1, .allMatch⟩ ≠ [] := by decide

/-- The state after reset meets what every step keeps, and answers a next state. -/
theorem witness_StepKeepsTheInvariants :
    (RailWithin State.reset ∧ SolenoidSafe State.reset) ∧
    (CreditsExact State.reset ∧ WithinCapacity State.reset ∧ StoreCurrent State.reset ∧ AuditKept State.reset) ∧
    SaleConsistent State.reset ∧
    (BanksOrdered State.reset ∧ HoldConsistent State.reset ∧ AccountsHidden State.reset) ∧
    after? (step State.reset) (fun t => t.clock) = some 1 :=
  ⟨⟨by decide, by decide⟩, ⟨by decide, by decide, by decide +kernel, by decide +kernel⟩, by decide,
    ⟨by decide, by decide, by decide⟩, by decide⟩

theorem witness_StepKeepsPrintConsistent : PrintConsistent (atStep (feedEntry 2)) := by
  simp [PrintConsistent, headFits, atStep, printing, lane, State.reset, State.setComposer, State.setMech, State.setRail,
    State.headEntry, rowPhase, headClaimPhase, feedEntry, entryKind]

end Sys2Proof.Machine.Slice0
end

/-! The requests that change the zero or the tare of a weighing channel: ZERO, TARE, TARE_PRESET and TARE_CLEAR (R12, R14, R15). -/

namespace Sys2Proof.Machine

section Channels

variable (s : State) (c : Chan)

/-! ### Replacing a channel record -/

@[simp] theorem setChan_met (v : Channel) : (s.setChan c v).met = s.met := by simp [State.met]

/-- Writing back the record a channel holds changes nothing. -/
@[simp] theorem setChan_chan : s.setChan c (s.chan c) = s := by cases c <;> rfl

/-- The later of two records written to one channel stands. -/
@[simp] theorem setChan_setChan (v w : Channel) : (s.setChan c v).setChan c w = s.setChan c w := by cases c <;> rfl

/-- The part of the state that holds a channel. -/
def chanPart : Chan → Part
  | .P => .chanP
  | .B => .chanB

/-- Writing one channel leaves every other part alone, the other channel among them. -/
theorem setChan_frame_chanPart (v : Channel) : sameOutside [chanPart c] s (s.setChan c v) = true := by
  refine sameOutside_iff.2 fun p hp => ?_
  cases c <;> cases p <;> simp [samePart, chanPart] at hp ⊢

/-! ### The admitted state -/

@[simp] theorem admitted_now : (admitted s).now = s.now := rfl
@[simp] theorem admitted_met : (admitted s).met = s.met := rfl
@[simp] theorem admitted_chanP : (admitted s).chanP = s.chanP := rfl
@[simp] theorem admitted_chan : (admitted s).chan c = s.chan c := by cases c <;> rfl

/-! ### A change of zero or tare -/

/-- The current reading weighed again with the zero, the tare and the state of the record that holds it (R10). -/
def weighedAgain (m : MetParams) (c : Chan) (v : Channel) : Option Reading :=
  v.reading.map fun r => weigh m c v r.g r.overload r.underload r.stamp

theorem recompute_eq_setChan :
    recompute c s = s.setChan c { s.chan c with reading := weighedAgain s.met c (s.chan c) } := by
  unfold recompute weighedAgain
  split
  · next hnone => rw [hnone, Option.map_none, ← hnone, setChan_chan]
  · next r hsome => rw [hsome, Option.map_some]

/-- A point of comparison touches the slot and the baseline of its channel alone (R21, R23). -/
theorem considerReport_eq_setChan :
    ∃ slot baseline, considerReport c s = s.setChan c { s.chan c with slot := slot, baseline := baseline } := by
  have kept : ∃ slot baseline, s = s.setChan c { s.chan c with slot := slot, baseline := baseline } :=
    ⟨(s.chan c).slot, (s.chan c).baseline, (setChan_chan s c).symm⟩
  have placed : ∃ slot baseline, placeReport c s = s.setChan c { s.chan c with slot := slot, baseline := baseline } :=
    ⟨_, _, rfl⟩
  unfold considerReport
  split
  · split
    · exact placed
    · split
      · exact placed
      · exact kept
  · exact kept

/-- After a channel takes the record `v` with a new zero or tare, its reading is weighed again and perhaps reported; nothing else
changes (R10, R23). -/
theorem retared_setChan (v : Channel) :
    ∃ slot baseline, retared c (s.setChan c v) =
      s.setChan c { v with reading := weighedAgain s.met c v, slot := slot, baseline := baseline } := by
  obtain ⟨slot, baseline, hreport⟩ := considerReport_eq_setChan (recompute c (s.setChan c v)) c
  refine ⟨slot, baseline, ?_⟩
  unfold retared
  rw [hreport, recompute_eq_setChan]
  simp

end Channels

/-- What an accepted request leaves that gave channel `c` the record `v`, with a new zero or tare, and placed the reply `r`. -/
structure RetaredTo (c : Chan) (v : Channel) (r : Reply) (s t : State) : Prop where
  replied : Replied r s t
  chan : ∃ slot baseline, t.chan c = { v with reading := weighedAgain s.met c v, slot := slot, baseline := baseline }
  other : ∀ d, d ≠ c → t.chan d = s.chan d
  frame : sameOutside [.link, chanPart c] s t = true

section Requests

variable {h : Header} {s : State} {code : Byte} {judge : State → Answer} (hwf : h.wellFormed = true)
  (hcredit : s.link.outstanding < 16)
include hwf hcredit

/-! ### Requests that are answered at once (R200, R202, R203) -/

/-- A request in its form and with credit is judged in the admitted state, and its answer is placed. -/
theorem request_of_reply {status : Status} {body : ReplyBody} {t : State}
    (hj : judge (admitted s) = .reply status body t) :
    request h code (formed h judge) s = placeReply ⟨code, h.tag, status, body⟩ t := by
  unfold admitted at hj
  simp [request, formed, hwf, hcredit, hj, settleAnswer]

/-- A refusal leaves the reply and the count of the request, and nothing more. -/
theorem request_of_refuse {status : Status} (hj : judge (admitted s) = refuse status (admitted s)) :
    request h code (formed h judge) s = replied ⟨code, h.tag, status, .none⟩ s :=
  request_of_reply hwf hcredit hj

/-- A request whose judgment gives a channel a record with a new zero or tare leaves what `RetaredTo` says. -/
theorem request_of_retared {c : Chan} {v : Channel} {body : ReplyBody}
    (hj : judge (admitted s) = .reply .ok body (retared c ((admitted s).setChan c v))) :
    ∃ t, request h code (formed h judge) s = t ∧ RetaredTo c v ⟨code, h.tag, .ok, body⟩ s t := by
  obtain ⟨slot, baseline, hretared⟩ := retared_setChan (admitted s) c v
  refine ⟨_, (request_of_reply hwf hcredit hj).trans (congrArg _ hretared), ⟨?_, ?_, ?_⟩, ⟨slot, baseline, ?_⟩,
    fun d hd => ?_, ?_⟩
  · simp [placeReply, admitted, countRequest, frameTaken]
  · simp [placeReply, admitted, countRequest, frameTaken]
  · simp [placeReply, admitted, countRequest, frameTaken]
  · simp [placeReply]
  · simp [placeReply, chan_setChan_other _ _ _ _ hd]
  · have hadmitted : sameOutside [.link, chanPart c] s (admitted s) = true :=
      sameOutside_mono (admitted_frame s) (by simp)
    exact sameOutside_step (placeReply _) (placeReply_frame _) (by simp)
      (sameOutside_trans hadmitted (sameOutside_mono (setChan_frame_chanPart _ c _) (by simp)))

end Requests

/-- The reading that stands after a change of zero or tare is the one before it, weighed again with the record of the channel. -/
theorem RetaredTo.reweighed {c : Chan} {v : Channel} {p : Reply} {s t : State} {r : Reading} (ht : RetaredTo c v p s t)
    (hr : v.reading = some r) : ∃ r', (t.chan c).reading = some r' ∧ Reweighed s.met c (t.chan c) r r' := by
  obtain ⟨slot, baseline, hchan⟩ := ht.chan
  refine ⟨weigh s.met c v r.g r.overload r.underload r.stamp, by simp [hchan, weighedAgain, hr], ?_⟩
  simp [Reweighed, hchan, weigh, Channel.tare, and_assoc]

/-! ### ZERO (R12) -/

section Zero

variable {s : State} {c : Chan} {r : Reading}

theorem zeroRequest_of_not_ready (hready : (s.chan c).state ≠ .ready) :
    zeroRequest (some c) s = refuse .wrongState s := by simp [zeroRequest, hready]

/-- READY with a current reading: the remaining checks are of the stable flag, the tare and the zero window, in this order. -/
theorem zeroRequest_of_ready (hready : (s.chan c).state = .ready) (hr : (s.chan c).reading = some r) :
    zeroRequest (some c) s =
      if r.stable = false then refuse .notStable s
      else if (s.chan c).tare ≠ 0 then refuse .wrongState s
      else if ((r.g - (s.chan c).zInit).natAbs : Int) * 50 ≤ maxOf s.met c then
        .reply .ok .none (retared c (s.setChan c (zeroChannel s.now (s.chan c) r.g)))
      else refuse .outOfRange s := by
  simp [zeroRequest, hready, hr]

end Zero

theorem clamp32_zero : clamp32 0 = 0 := by decide

/-- A channel zeroed at its own reading shows no weight, as long as it holds no tare. -/
theorem Reweighed.zero_of_zOp {m : MetParams} {c : Chan} {ch : Channel} {r r' : Reading} (hw : Reweighed m c ch r r')
    (hz : ch.zOp = r.g) (htare : ch.tare = 0) : r'.gross = 0 ∧ r'.net = 0 := by
  obtain ⟨-, hgross, -, hnet, -⟩ := hw
  have hgross0 : r'.gross = 0 := by rw [hgross, hz, Int.sub_self, clamp32_zero]
  exact ⟨hgross0, by rw [hnet, hgross0, htare, Int.sub_zero, clamp32_zero]⟩

section Accepted

variable {h : Header} {s : State} (hwf : h.wellFormed = true) (hcredit : s.link.outstanding < 16)
include hwf hcredit

/-- An accepted ZERO: the operating zero moves to the reading, and a running dwell restarts (R12). -/
theorem exec_zero_accepted {c : Chan} {r : Reading} (hready : (s.chan c).state = .ready)
    (hr : (s.chan c).reading = some r) (hstable : r.stable = true) (htare : (s.chan c).tare = 0)
    (hnear : ((r.g - (s.chan c).zInit).natAbs : Int) * 50 ≤ maxOf s.met c) :
    ∃ t, exec (.zero h (some c)) s = .next t ∧
      RetaredTo c (zeroChannel s.now (s.chan c) r.g) ⟨0x01, h.tag, .ok, .none⟩ s t := by
  have judged := zeroRequest_of_ready (s := admitted s) (c := c) (r := r) (by rwa [admitted_chan]) (by rwa [admitted_chan])
  rw [admitted_chan, admitted_met, admitted_now, if_neg ((Bool.not_eq_false _).mpr hstable), if_neg (not_not_intro htare),
    if_pos hnear] at judged
  obtain ⟨t, hrequest, ht⟩ := request_of_retared (code := 0x01) hwf hcredit judged
  exact ⟨t, congrArg _ hrequest, ht⟩

end Accepted

/-- Settles O12: each refusal is the branch of `zeroRequest` its premises select, judged in the admitted state; the accepted request is
a change of zero, whose effect `RetaredTo` says. -/
theorem zeroIsJudgedAndActs : Obligations.ZeroIsJudgedAndActs := by
  intro h s hwf hcredit
  refine ⟨congrArg _ (request_of_refuse hwf hcredit rfl), fun c => ⟨fun hready => ?_, fun r hready hr => ?_⟩⟩
  · exact congrArg _ (request_of_refuse hwf hcredit (zeroRequest_of_not_ready (by rwa [admitted_chan])))
  have judged := zeroRequest_of_ready (s := admitted s) (c := c) (r := r) (by rwa [admitted_chan]) (by rwa [admitted_chan])
  rw [admitted_chan, admitted_met, admitted_now] at judged
  refine ⟨fun hstable => ?_, fun hstable htare => ?_, fun hstable htare hfar => ?_, fun hstable htare hnear => ?_⟩
  · exact congrArg _ (request_of_refuse hwf hcredit (judged.trans (if_pos hstable)))
  · exact congrArg _ (request_of_refuse hwf hcredit
      (by rw [judged, if_neg ((Bool.not_eq_false _).mpr hstable), if_pos htare]))
  · exact congrArg _ (request_of_refuse hwf hcredit
      (by rw [judged, if_neg ((Bool.not_eq_false _).mpr hstable), if_neg (not_not_intro htare), if_neg (Int.not_le.2 hfar)]))
  · obtain ⟨t, hexec, ht⟩ := exec_zero_accepted hwf hcredit hready hr hstable htare hnear
    obtain ⟨r', hr', hweighed⟩ := ht.reweighed (r := r) hr
    obtain ⟨slot, baseline, hchan⟩ := ht.chan
    have hzOp : (t.chan c).zOp = r.g := by rw [hchan]; rfl
    have htare' : (t.chan c).tare = 0 := by rw [hchan]; exact htare
    obtain ⟨hgross, hnet⟩ := hweighed.zero_of_zOp hzOp htare'
    exact ⟨t, r', hexec, ht.replied, hzOp, by rw [hchan]; rfl, by rw [hchan]; rfl, by rw [hchan]; rfl, hr', hweighed,
      hgross, hnet, ht.other, sameOutside_mono ht.frame (by cases c <;> simp [chanPart])⟩

/-! ### TARE, TARE_PRESET and TARE_CLEAR (R14, R15) -/

/-- A weight of at least one division rounds to a multiple that is not 0. -/
theorem roundHalfUp_ne_zero {e x : Int} (he : 0 < e) (hx : e ≤ x) : roundHalfUp e x ≠ 0 := by
  have hquot : 1 ≤ (x + e / 2) / e := (Int.le_ediv_iff_mul_le he).2 (by omega)
  exact Int.mul_ne_zero (by omega) (by omega)

section Tare

variable {s : State} {c : Option Chan} {r : Reading} {v : Int}

theorem tareRequest_of_not_P (hc : c ≠ some .P) : tareRequest c s = refuse .badRequest s := by simp [tareRequest, hc]

theorem tarePresetRequest_of_not_P (hc : c ≠ some .P) : tarePresetRequest c v s = refuse .badRequest s := by
  simp [tarePresetRequest, hc]

theorem tareClearRequest_of_not_P (hc : c ≠ some .P) : tareClearRequest c s = refuse .badRequest s := by
  simp [tareClearRequest, hc]

/-- TARE of a channel that is not READY, or under an item tare. -/
theorem tareRequest_of_wrongState (hs : s.chanP.state ≠ .ready ∨ s.chanP.itemTare.isSome = true) :
    tareRequest (some .P) s = refuse .wrongState s := by
  rcases hs with hready | hitem
  · simp [tareRequest, hready]
  · simp [tareRequest, hitem]

/-- TARE_PRESET has the same two checks of the state as TARE. -/
theorem tarePresetRequest_of_wrongState (hs : s.chanP.state ≠ .ready ∨ s.chanP.itemTare.isSome = true) :
    tarePresetRequest (some .P) v s = refuse .wrongState s := by
  rcases hs with hready | hitem
  · simp [tarePresetRequest, hready]
  · simp [tarePresetRequest, hitem]

/-- READY, no item tare and a current reading: the stable flag is checked before the range of the gross. -/
theorem tareRequest_of_ready (hready : s.chanP.state = .ready) (hitem : s.chanP.itemTare = none)
    (hr : s.chanP.reading = some r) :
    tareRequest (some .P) s =
      if r.stable = false then refuse .notStable s
      else if s.met.pE1 ≤ r.gross ∧ r.gross ≤ s.met.pMax1 then
        .reply .ok .none
          (retared .P (s.setChan .P { s.chanP with operatorTare := roundHalfUp s.met.pE1 r.gross, aztStart := none }))
      else refuse .outOfRange s := by
  simp [tareRequest, hready, hitem, hr]

/-- READY and no item tare: the value must be at least 0 and, rounded, at most Max1. -/
theorem tarePresetRequest_of_ready (hready : s.chanP.state = .ready) (hitem : s.chanP.itemTare = none) :
    tarePresetRequest (some .P) v s =
      if v < 0 ∨ s.met.pMax1 < roundHalfUp s.met.pE1 v then refuse .outOfRange s
      else .reply .ok (.operatorTare (roundHalfUp s.met.pE1 v))
        (retared .P (s.setChan .P { s.chanP with operatorTare := roundHalfUp s.met.pE1 v })) := by
  simp [tarePresetRequest, hready, hitem]

end Tare

section Accepted

variable {h : Header} {s : State} (hwf : h.wellFormed = true) (hcredit : s.link.outstanding < 16)
include hwf hcredit

/-- An accepted TARE: the rounded gross becomes the operator tare, and the dwell of zero tracking ends (R14). -/
theorem exec_tare_accepted {r : Reading} (hready : s.chanP.state = .ready) (hitem : s.chanP.itemTare = none)
    (hr : s.chanP.reading = some r) (hstable : r.stable = true) (hlow : s.met.pE1 ≤ r.gross)
    (hhigh : r.gross ≤ s.met.pMax1) :
    ∃ t, exec (.tare h (some .P)) s = .next t ∧
      RetaredTo .P { s.chanP with operatorTare := roundHalfUp s.met.pE1 r.gross, aztStart := none }
        ⟨0x02, h.tag, .ok, .none⟩ s t := by
  have judged := tareRequest_of_ready (s := admitted s) hready hitem hr
  rw [if_neg ((Bool.not_eq_false _).mpr hstable), if_pos ⟨hlow, hhigh⟩] at judged
  obtain ⟨t, hrequest, ht⟩ := request_of_retared (code := 0x02) hwf hcredit judged
  exact ⟨t, congrArg _ hrequest, ht⟩

/-- An accepted TARE_PRESET: the rounded value becomes the operator tare (R15). -/
theorem exec_tarePreset_accepted {v : Int} (hready : s.chanP.state = .ready) (hitem : s.chanP.itemTare = none)
    (hlow : 0 ≤ v) (hhigh : roundHalfUp s.met.pE1 v ≤ s.met.pMax1) :
    ∃ t, exec (.tarePreset h (some .P) v) s = .next t ∧
      RetaredTo .P { s.chanP with operatorTare := roundHalfUp s.met.pE1 v }
        ⟨0x03, h.tag, .ok, .operatorTare (roundHalfUp s.met.pE1 v)⟩ s t := by
  have judged := tarePresetRequest_of_ready (s := admitted s) (v := v) hready hitem
  rw [admitted_met, if_neg (not_or.2 ⟨Int.not_lt.2 hlow, Int.not_lt.2 hhigh⟩)] at judged
  obtain ⟨t, hrequest, ht⟩ := request_of_retared (code := 0x03) hwf hcredit judged
  exact ⟨t, congrArg _ hrequest, ht⟩

/-- TARE_CLEAR is accepted in every state (R15). -/
theorem exec_tareClear_accepted :
    ∃ t, exec (.tareClear h (some .P)) s = .next t ∧
      RetaredTo .P { s.chanP with operatorTare := 0 } ⟨0x04, h.tag, .ok, .none⟩ s t := by
  obtain ⟨t, hrequest, ht⟩ := request_of_retared (c := .P) (v := { s.chanP with operatorTare := 0 }) (code := 0x04)
    (judge := tareClearRequest (some .P)) hwf hcredit rfl
  exact ⟨t, congrArg _ hrequest, ht⟩

end Accepted

/-- Settles O13: the refusals are the branches of the three requests their premises select, judged in the admitted state; each accepted
request is a change of the operator tare, whose effect `RetaredTo` says. -/
theorem tareRequestsAreJudgedAndAct : Obligations.TareRequestsAreJudgedAndAct := by
  intro h s v hwf hcredit
  refine ⟨fun c hc => ⟨?_, ?_, ?_⟩, fun hs => ⟨?_, ?_⟩, fun r hready hitem hr => ?_, fun hready hitem hout => ?_,
    fun w hw hready hitem hlow hhigh => ?_, ?_⟩
  · exact congrArg _ (request_of_refuse hwf hcredit (tareRequest_of_not_P hc))
  · exact congrArg _ (request_of_refuse hwf hcredit (tarePresetRequest_of_not_P hc))
  · exact congrArg _ (request_of_refuse hwf hcredit (tareClearRequest_of_not_P hc))
  · exact congrArg _ (request_of_refuse hwf hcredit (tareRequest_of_wrongState hs))
  · exact congrArg _ (request_of_refuse hwf hcredit (tarePresetRequest_of_wrongState hs))
  · have judged := tareRequest_of_ready (s := admitted s) hready hitem hr
    refine ⟨fun hstable => ?_, fun hstable hout => ?_, fun hstable hlow hhigh => ?_⟩
    · exact congrArg _ (request_of_refuse hwf hcredit (judged.trans (if_pos hstable)))
    · have hrange : ¬(s.met.pE1 ≤ r.gross ∧ r.gross ≤ s.met.pMax1) := by omega
      exact congrArg _ (request_of_refuse hwf hcredit (judged.trans
        (by rw [admitted_met, if_neg ((Bool.not_eq_false _).mpr hstable), if_neg hrange])))
    · obtain ⟨t, hexec, ht⟩ := exec_tare_accepted hwf hcredit hready hitem hr hstable hlow hhigh
      obtain ⟨r', hr', hweighed⟩ := ht.reweighed (r := r) hr
      obtain ⟨slot, baseline, hchan⟩ := ht.chan
      rw [chan_P] at hchan
      have hsource (he : 0 < s.met.pE1) : t.chanP.tareSource = .operator := by
        simp [hchan, Channel.tareSource, hitem, roundHalfUp_ne_zero he hlow]
      exact ⟨t, r', hexec, ht.replied, by rw [hchan]; rfl, by rw [hchan], hsource, hr', hweighed, ht.frame⟩
  · exact congrArg _ (request_of_refuse hwf hcredit
      ((tarePresetRequest_of_ready (s := admitted s) hready hitem).trans (if_pos hout)))
  · obtain rfl : w = roundHalfUp s.met.pE1 v := hw
    obtain ⟨t, hexec, ht⟩ := exec_tarePreset_accepted hwf hcredit hready hitem hlow hhigh
    obtain ⟨slot, baseline, hchan⟩ := ht.chan
    rw [chan_P] at hchan
    have hsource : t.chanP.tareSource = if roundHalfUp s.met.pE1 v = 0 then .none else .operator := by
      simp [hchan, Channel.tareSource, hitem]
    exact ⟨t, hexec, ht.replied, by rw [hchan], hsource, fun r hr => ht.reweighed hr, ht.frame⟩
  · obtain ⟨t, hexec, ht⟩ := exec_tareClear_accepted hwf hcredit
    obtain ⟨slot, baseline, hchan⟩ := ht.chan
    rw [chan_P] at hchan
    have hsource : t.chanP.tareSource = if s.chanP.itemTare.isSome then .item else .none := by
      simp [hchan, Channel.tareSource]
    exact ⟨t, hexec, ht.replied, by rw [hchan], by rw [hchan], by rw [hchan]; rfl, hsource,
      fun r hr => ht.reweighed hr, ht.frame⟩

end Sys2Proof.Machine

/-! The queries of the two tables: TABLE_QUERY and TICKET_QUERY (R58, R72, R73). -/

namespace Sys2Proof.Machine

section Queries

variable {s : State} {n : Nat}

/-! ### TABLE_QUERY (R72, R73) -/

theorem tableQueryRequest_zero :
    tableQueryRequest 0 s = .reply .ok
      (.tableSummary s.items.generation s.items.active.length s.items.state s.items.standby.length s.items.check
        (if s.items.state = .commitPending then s.receipt.number else none)) s := if_pos rfl

theorem tableQueryRequest_of_found {e : ItemEntry} (hn : n ≠ 0) (hfound : findEntry s.items.active n = some e) :
    tableQueryRequest n s = .reply .ok (.tableEntry e s.items.generation) s := by
  simp [tableQueryRequest, hn, hfound]

theorem tableQueryRequest_of_missing (hn : n ≠ 0) (hmissing : findEntry s.items.active n = none) :
    tableQueryRequest n s = .reply .unknownItem (.tableMiss s.items.generation) s := by
  simp [tableQueryRequest, hn, hmissing]

/-- A bank in which no entry has the code finds nothing under it. -/
theorem findEntry_eq_none {bank : List ItemEntry} (hmissing : ∀ e ∈ bank, e.code ≠ n) : findEntry bank n = none := by
  simpa [findEntry] using hmissing

/-! ### TICKET_QUERY (R58) -/

theorem ticketQueryRequest_zero :
    ticketQueryRequest 0 s = .reply .ok
      (.ticketSummary (s.pricing.tickets.map ticketBrief) s.pricing.nextTicket s.pricing.clearRequired
        (s.pricing.weighing.map (·.itemCode))) s := if_pos rfl

theorem ticketQueryRequest_of_found {k : Ticket} (hn : n ≠ 0) (hfound : findTicket s n = some k) :
    ticketQueryRequest n s = .reply .ok (.ticket k) s := by
  simp [ticketQueryRequest, hn, hfound]

theorem ticketQueryRequest_of_missing (hn : n ≠ 0) (hmissing : findTicket s n = none) :
    ticketQueryRequest n s = refuse .unknownTicket s := by
  simp [ticketQueryRequest, hn, hmissing]

/-- A ticket table in which no ticket has the number finds nothing under it. -/
theorem findTicket_eq_none (hmissing : ∀ k ∈ s.pricing.tickets, k.number ≠ n) : findTicket s n = none := by
  simpa [findTicket] using hmissing

end Queries

/-- An answer that leaves the admitted state as it is, whatever its status and its body, adds the reply and the count of the request to
`s` and nothing more (R202, R203). -/
theorem request_of_unchanged {h : Header} {s : State} {code : Byte} {judge : State → Answer} {status : Status} {body : ReplyBody}
    (hwf : h.wellFormed = true) (hcredit : s.link.outstanding < 16)
    (hj : judge (admitted s) = .reply status body (admitted s)) :
    request h code (formed h judge) s = replied ⟨code, h.tag, status, body⟩ s :=
  request_of_reply hwf hcredit hj

/-- Settles O30: each query is judged in the admitted state, which holds the two tables of `s`; every branch leaves that state as it is,
so that the reply and the count of the request are all that is added. -/
theorem tablesAreQueried : Obligations.TablesAreQueried := by
  intro h n s hwf hcredit
  refine ⟨fun e hn hfound => ?_, fun hn hmissing => ?_, ?_, fun k hn hfound => ?_, fun hn hmissing => ?_, ?_⟩
  · exact congrArg _ (request_of_unchanged hwf hcredit (tableQueryRequest_of_found (s := admitted s) hn hfound))
  · exact congrArg _ (request_of_unchanged hwf hcredit
      (tableQueryRequest_of_missing (s := admitted s) hn (findEntry_eq_none hmissing)))
  · exact congrArg _ (request_of_unchanged hwf hcredit (tableQueryRequest_zero (s := admitted s)))
  · exact congrArg _ (request_of_unchanged hwf hcredit (ticketQueryRequest_of_found (s := admitted s) hn hfound))
  · exact congrArg _ (request_of_unchanged hwf hcredit
      (ticketQueryRequest_of_missing (s := admitted s) hn (findTicket_eq_none (s := admitted s) hmissing)))
  · exact congrArg _ (request_of_unchanged hwf hcredit (ticketQueryRequest_zero (s := admitted s)))

end Sys2Proof.Machine

/-! Deletion from the Standby bank and the abandonment of a staging: STAGE_DELETE and STAGE_ABANDON (R65, R70). -/

namespace Sys2Proof.Machine

section StageRequests

variable {h : Header} {s : State} {code : Byte} {judge : State → Answer} {v : Items} {r : Reply}

/-! ### Answers that replace the item table -/

/-- An answer that replaces the item table of the admitted state does so to `s`, besides the reply and the count of the request. -/
theorem request_of_setItems {status : Status} {body : ReplyBody} (hwf : h.wellFormed = true)
    (hcredit : s.link.outstanding < 16) (hj : judge (admitted s) = .reply status body ((admitted s).setItems v)) :
    request h code (formed h judge) s = replied ⟨code, h.tag, status, body⟩ (s.setItems v) :=
  request_of_reply hwf hcredit hj

theorem Replied.of_setItems : Replied r s (replied r (s.setItems v)) := by simp [Replied, replied]

theorem replied_setItems_frame : sameOutside [.link, .items] s (replied r (s.setItems v)) = true := by
  refine sameOutside_trans (sameOutside_mono (setItems_frame s v) ?_) (sameOutside_mono (setLink_frame _ _) ?_) <;> simp

/-! ### STAGE_DELETE (R65) -/

/-- The entries of a bank that none of the codes names, in the order of the bank. -/
def withoutCodes (codes : List Nat) (bank : List ItemEntry) : List ItemEntry :=
  bank.filter fun e => !codes.contains e.code

variable {codes : List Nat}

theorem mem_withoutCodes {bank : List ItemEntry} {e : ItemEntry} :
    e ∈ withoutCodes codes bank ↔ e ∈ bank ∧ e.code ∉ codes := by simp [withoutCodes]

theorem withoutCodes_sublist (bank : List ItemEntry) : (withoutCodes codes bank).Sublist bank := List.filter_sublist

theorem stageDeleteRequest_of_not_staging (hlow : 1 ≤ codes.length) (hhigh : codes.length ≤ 16)
    (hstate : s.items.state ≠ .staging) : stageDeleteRequest codes s = refuse .wrongState s := by
  simp [stageDeleteRequest, hlow, hhigh, hstate]

theorem stageDeleteRequest_of_staging (hlow : 1 ≤ codes.length) (hhigh : codes.length ≤ 16)
    (hstate : s.items.state = .staging) :
    stageDeleteRequest codes s =
      .reply .ok
        (.deleted (s.items.standby.length - (withoutCodes codes s.items.standby).length)
          (withoutCodes codes s.items.standby).length)
        (s.setItems { s.items with standby := withoutCodes codes s.items.standby }) := by
  simp [stageDeleteRequest, hlow, hhigh, hstate, withoutCodes]

/-- An accepted STAGE_DELETE: the named entries leave the Standby bank, and the reply counts them (R65). -/
theorem exec_stageDelete_of_staging (hwf : h.wellFormed = true) (hcredit : s.link.outstanding < 16)
    (hlow : 1 ≤ codes.length) (hhigh : codes.length ≤ 16) (hstate : s.items.state = .staging) :
    exec (.stageDelete h codes) s =
      .next (replied
        ⟨0x08, h.tag, .ok,
          .deleted (s.items.standby.length - (withoutCodes codes s.items.standby).length)
            (withoutCodes codes s.items.standby).length⟩
        (s.setItems { s.items with standby := withoutCodes codes s.items.standby })) :=
  congrArg _ (request_of_setItems hwf hcredit (stageDeleteRequest_of_staging (s := admitted s) hlow hhigh hstate))

/-! ### STAGE_ABANDON (R70) -/

/-- With no commit pending, the receipt's end makes no switch (R68, R70). -/
theorem makePendingSwitch_of_not_pending (hstate : s.items.state ≠ .commitPending) : makePendingSwitch s = s := if_neg hstate

end StageRequests

/-- Settles O28: STAGE_DELETE is judged in the admitted state, which holds the banks of `s`, and leaves `withoutCodes` of its
Standby bank; STAGE_ABANDON empties the Standby bank in every state, and an empty one has no commit pending. -/
theorem stageDeleteAndAbandon : Obligations.StageDeleteAndAbandon := by
  intro h s hwf hcredit
  refine ⟨fun codes hlow hhigh => ⟨fun hstate => ?_, fun hstate => ?_⟩, ?_, fun u hempty => ?_⟩
  · exact congrArg _ (request_of_refuse hwf hcredit
      (stageDeleteRequest_of_not_staging (s := admitted s) hlow hhigh hstate))
  · have hsub := withoutCodes_sublist (codes := codes) s.items.standby
    exact ⟨_, _, exec_stageDelete_of_staging hwf hcredit hlow hhigh hstate, Replied.of_setItems, rfl,
      (Nat.add_sub_of_le hsub.length_le).symm, fun _ => mem_withoutCodes, hsub, replied_setItems_frame⟩
  · exact congrArg _ (request_of_setItems (judge := stageAbandonRequest) hwf hcredit rfl)
  · exact makePendingSwitch_of_not_pending (by simp [hempty])

end Sys2Proof.Machine

/-! The output latches of the lane lines: LINES_WRITE (R194). -/

namespace Sys2Proof.Machine

/-- The lines after a LINES_WRITE. -/
def linesWritten (mode data : BitVec 8) (s : State) : Lines :=
  { s.lines with latches := writtenLatches s.lines.latches mode data (roleLines s.params) }

/-! ### Roles and latches, line by line (R194, R195) -/

section Latches

variable {i : Fin 8}

theorem getLsbD_one_shiftLeft (j : Fin 8) : (1#8 <<< j.val).getLsbD i = true ↔ j = i := by
  change (BitVec.twoPow 8 j.val).getLsbD i = true ↔ j = i
  simp only [BitVec.getLsbD_twoPow, j.isLt, decide_true, Bool.true_and, decide_eq_true_eq, Fin.val_inj]

theorem roleLines_getLsbD (p : Params) :
    (roleLines p).getLsbD i = true ↔ p.holdLightLine = some i ∨ p.printerLightLine = some i := by
  cases hhold : p.holdLightLine <;> cases hprinter : p.printerLightLine <;>
    simp [roleLines, hhold, hprinter, ← getLsbD_one_shiftLeft]

variable {latches mode data roles : BitVec 8}

/-- The table of R194: a role line keeps its latch, mode 0 takes the data, mode 1 inverts on data 1. -/
theorem writtenLatches_getLsbD :
    (writtenLatches latches mode data roles).getLsbD i =
      if roles.getLsbD i = true then latches.getLsbD i
      else if mode.getLsbD i = true then
        (if data.getLsbD i = true then !latches.getLsbD i else latches.getLsbD i)
      else data.getLsbD i := by
  simp only [writtenLatches, BitVec.getLsbD_or, BitVec.getLsbD_and, BitVec.getLsbD_not, BitVec.getLsbD_xor, i.isLt,
    decide_true, Bool.true_and]
  cases roles.getLsbD i
  · cases mode.getLsbD i
    · simp
    · cases data.getLsbD i <;> simp
  · simp

theorem linesWritten_latches_getLsbD (s : State) :
    (linesWritten mode data s).latches.getLsbD i =
      if s.params.holdLightLine = some i ∨ s.params.printerLightLine = some i then s.lines.latches.getLsbD i
      else if mode.getLsbD i = true then
        (if data.getLsbD i = true then !s.lines.latches.getLsbD i else s.lines.latches.getLsbD i)
      else data.getLsbD i := by
  simp only [linesWritten, writtenLatches_getLsbD, roleLines_getLsbD]

end Latches

/-! ### Pins (R193, R194) -/

section Pins

variable {s : State} {i : Fin 8} (hhold : s.params.holdLightLine ≠ some i)
  (hprinter : s.params.printerLightLine ≠ some i)
include hhold hprinter

theorem pinLevel_of_out (hout : s.lines.directions.getLsbD i = true) :
    s.pinLevel i = s.lines.latches.getLsbD i := by
  simp [State.pinLevel, hout, hhold, hprinter]

/-- A line without a role that is turned OUT drives the latch it kept. -/
theorem pinLevel_redirect_out (l : Lines) :
    (s.setLines (redirect l (l.directions ||| BitVec.twoPow 8 i))).pinLevel i = l.latches.getLsbD i :=
  pinLevel_of_out (s := s.setLines _) hhold hprinter (by simp [redirect])

end Pins

/-! ### The request -/

section Write

variable {h : Header} {mode data : BitVec 8} {s : State} {r : Reply}

theorem exec_linesWrite (hwf : h.wellFormed = true) (hcredit : s.link.outstanding < 16) :
    exec (.linesWrite h mode data) s =
      .next (replied ⟨0x12, h.tag, .ok, .lineLatches (linesWritten mode data s).latches (roleLines s.params)⟩
        (s.setLines (linesWritten mode data s))) :=
  congrArg _ (request_of_reply (judge := linesWrite mode data) hwf hcredit rfl)

theorem Replied.of_setLines (v : Lines) : Replied r s (replied r (s.setLines v)) := by simp [Replied, replied]

theorem replied_setLines_frame (v : Lines) : sameOutside [.link, .lines] s (replied r (s.setLines v)) = true := by
  refine sameOutside_trans (sameOutside_mono (setLines_frame s v) ?_) (sameOutside_mono (setLink_frame _ _) ?_) <;> simp

/-- The line conditions do not read the latches (R194, R196). -/
theorem conditionValue_linesWritten (c : LineCondition) :
    conditionValue (linesWritten mode data s) c = conditionValue s.lines c := rfl

theorem attendant_linesWritten : (replied r (s.setLines (linesWritten mode data s))).attendant = s.attendant := by
  unfold State.attendant
  have hparams : (replied r (s.setLines (linesWritten mode data s))).params = s.params := rfl
  rw [hparams]
  cases s.params.attendantCondition with
  | none => rfl
  | some c => exact conditionValue_linesWritten (s.lines.conditions.get c)

end Write

/-- Settles O53: the request answers in one event with the lines `linesWritten`, whose latches the table of R194 gives line by line;
the pins follow from the latches, at once on an OUT line and at the change of direction on an IN line. -/
theorem linesWriteSetsLatches : Obligations.LinesWriteSetsLatches := by
  intro h mode data s hwf hcredit
  refine ⟨_, exec_linesWrite hwf hcredit, Replied.of_setLines _, fun i => roleLines_getLsbD s.params,
    fun i => linesWritten_latches_getLsbD s, fun i hout hhold hprinter => ?_, rfl, attendant_linesWritten,
    fun l _ hlatches i hhold hprinter => ?_, replied_setLines_frame _⟩
  · exact pinLevel_of_out (s := replied _ _) hhold hprinter hout
  · rw [← hlatches]
    exact pinLevel_redirect_out (s := replied _ _) hhold hprinter l

end Sys2Proof.Machine
